-- ==== Sys2Proof/Word.lean ====
section
/-!
DEFINITION. The words of the block and its small named sets, with nothing computed on them.
Widths: rules R13 (u8, u16, f32), R20 (SEQ), R73 (the transaction word).
-/
namespace Sys2Proof

/-- `u8` of rule R13: a command byte. -/
abbrev Byte := BitVec 8

/-- `u16` of rule R13: a duty or period value, and one register of the PWM register space (R50). -/
abbrev Half := BitVec 16

/-- `f32` of rule R13: an IEEE 754 binary32 value given by its 32-bit pattern. -/
abbrev F32 := BitVec 32

/-- Rule R73: the 20-bit transaction word `W`, `ADDR`, `DATA`. -/
abbrev Tx := BitVec 20

/-- Rule R76: the 4-bit step code held in `SEQ`. -/
abbrev StepCode := BitVec 4

/-- Rule R50: a 3-bit address of the PWM register space. -/
abbrev RegAddr := BitVec 3

/-- Rule R70: a word of one of the three formats, named by where it travels. Which format a word has
is known from that place, never from its bits. -/
inductive CodeWord where
  /-- format C: a byte on the command port -/
  | command (b : Byte)
  /-- format T: a word on the transaction bus -/
  | transaction (w : Tx)
  /-- format S: a code in `SEQ` -/
  | stepCode (c : StepCode)
deriving DecidableEq, Repr

/-- Rule R28: the two switching frequencies that `PWM_FSEL` selects. -/
inductive Freq where
  /-- `F1K` = 0, the initial 1 kHz -/
  | f1k
  /-- `F10K` = 1, the operating 10 kHz -/
  | f10k
deriving DecidableEq, Repr, Inhabited

/-- Rule R10 `N_CH`: the channels 1, 2, 3. -/
inductive Channel where
  | ch1
  | ch2
  | ch3
deriving DecidableEq, Repr, Inhabited

/-- Rule R21: the names of the six datapath registers `x[0]` to `x[5]`. -/
inductive DataReg where
  | cb
  | pct
  | rd
  | df
  | dc
  | maxd
deriving DecidableEq, Repr, Inhabited

/-- Rule R161: the two values of the status indicator. -/
inductive Indicator where
  | active
  | idle
deriving DecidableEq, Repr, Inhabited

/-- The three binary32 operations of rule R91 that can produce a NaN. -/
inductive FloatOp where
  | add
  | mul
  | div
deriving DecidableEq, Repr, Inhabited

end Sys2Proof
end

