-- ==== Sys2Proof/Machine/Operands.lean ====
section
/-!
DEFINITION. Operand assembly: the fields of the transaction word (rules R73, R75), the reserved words
(rule R79) and the reserved step codes (rule R25).
-/
namespace Sys2Proof

/-- `W`, bit 19 of a transaction word (rule R73). -/
def Tx.write (w : Tx) : Bool := w.getLsbD 19

/-- `ADDR[2:0]`, bits 18:16 (rule R73). -/
def Tx.addr (w : Tx) : RegAddr := w.extractLsb' 16 3

/-- `DATA[15:0]`, bits 15:0 (rule R73). -/
def Tx.data (w : Tx) : Half := w.extractLsb' 0 16

/-- The word with the three fields (rule R73). -/
def Tx.mk (write : Bool) (addr : RegAddr) (data : Half) : Tx := BitVec.ofBool write ++ addr ++ data

/-- The bit `f` that stands for a frequency (rule R75: 0 = F1K, 1 = F10K). -/
def Freq.bit : Freq → BitVec 1
  | .f1k => 0#1
  | .f10k => 1#1

/-- The frequency that bit 0 of `DATA` selects (rule R75). -/
def Freq.ofBit (b : Bool) : Freq := if b then .f10k else .f1k

/-- `DATA` of SETFREQ: fifteen zeros and the bit `f` (rule R74). -/
def Freq.data (f : Freq) : Half := 0#15 ++ f.bit

/-- The channel's number, 1 to 3 (rule R10). -/
def Channel.number : Channel → Nat
  | .ch1 => 1
  | .ch2 => 2
  | .ch3 => 3

/-- `DATA` of ENABLE ch: `1 << (ch - 1)` (rule R113). -/
def Channel.enableData (ch : Channel) : Half := 1#16 <<< (ch.number - 1)

/-- The address of `DUTY_SH[ch]`: `4 + ch` (rules R31, R75). -/
def Channel.dutyAddr (ch : Channel) : RegAddr := 4#3 + BitVec.ofNat 3 ch.number

/-- The channel of a SETDUTY: `ADDR - 4`, for the addresses 5, 6, 7 (rule R75). -/
def Channel.ofDutyAddr (a : RegAddr) : Option Channel :=
  match a.toNat with
  | 5 => some .ch1
  | 6 => some .ch2
  | 7 => some .ch3
  | _ => none

/-- Rule R79, in its own words: `ADDR` 3 or 4; a write to address 1; a read of any address but 1, or
with `DATA` not 0; a write to address 0 with any of `DATA[15:1]` set; a write to address 2 whose
`DATA` is not exactly 1, 2 or 4. -/
def Tx.reserved (w : Tx) : Bool :=
  w.addr = 3#3 || w.addr = 4#3
  || (w.write && w.addr = 1#3)
  || (!w.write && w.addr ≠ 1#3)
  || (!w.write && w.data ≠ 0#16)
  || (w.write && w.addr = 0#3 && w.data.extractLsb' 1 15 ≠ 0#15)
  || (w.write && w.addr = 2#3 && !(w.data = 1#16 || w.data = 2#16 || w.data = 4#16))

/-- Rules R25 and R76: the step codes 12 to 15 are reserved. -/
def StepCode.reserved (c : StepCode) : Bool := 12 ≤ c.toNat

end Sys2Proof
end

