-- ==== Sys2Proof/Config.lean ====
section
/-!
DEFINITION. What is fixed for a run, who may move, and the free values: the parameters of rule R10,
the turns by which the agents of rule R17 interleave (R60), and the constants without a body that
stand for what the spec leaves open. A claim that holds at all holds for every value of them.
-/
namespace Sys2Proof

/-- A counter period in range, 1 to 65535 ticks (rule R10). DESIGN CHOICE (log 3): the range is part
of the type, so a value out of range cannot be built; `State.powerOn` refuses one (R171). -/
structure Period where
  ticks : Half
  pos : ticks ≠ 0#16
deriving DecidableEq, Repr

/-- The two events of the agent `PWMT` (rules R118, R119). -/
inductive TimerEvent where
  | tick
  | pbound
deriving DecidableEq, Repr, Inhabited

/-- What the transport answers the command loop (rules R155, R156, R158, R163). -/
inductive LoopInput where
  /-- no event pending, or nothing to answer -/
  | nothing
  /-- a receive event: byte 0, then the rest of its bytes; what exceeds the buffer stays in the
  transport (DEDUCED, log 13) -/
  | received (first : Byte) (rest : List Byte)
  /-- a failed read -/
  | readError
  /-- a write that reports `n` bytes written; more than was offered counts as all that was offered
  (DEDUCED, log 13) -/
  | wrote (n : Nat)
  /-- a failed write -/
  | writeError
deriving DecidableEq, Repr, Inhabited

/-- One atomic move of one agent of rule R17, in any order (rule R60). -/
inductive Move where
  /-- `SEQR` performs the step that `SEQ` names (`STEP` of rule R82) -/
  | sequencer
  /-- `PWMT` acts: TICK or PBOUND -/
  | timer (e : TimerEvent)
  /-- `HOST` offers a command byte on the command port (rule R139) -/
  | offer (b : Byte)
  /-- `HOST` asserts `rst` for one step (rule R191) -/
  | rst
  /-- the command loop of the environment advances (rule R154) -/
  | loop (i : LoopInput)
deriving DecidableEq, Repr, Inhabited

/-- One turn of the agenda: a move of an agent, or one of the other lines of rule R82. -/
inductive Turn where
  | move (m : Move)
  /-- a transaction word put on the bus from outside the sequencer (R82, R198); no run of the block
  has one (R123) -/
  | transaction (w : Tx)
  /-- `CMD b`: the host offers `b` and the block runs until `SEQ = S_WAIT` again -/
  | command (b : Byte)
  /-- `INIT` of rule R83: eight steps of the sequencer -/
  | init
  /-- the host chooses the parameters and power is applied (rules R166, R190) -/
  | powerOn (maxDuty maxDuty1k : Nat)
deriving DecidableEq, Repr, Inhabited

theorem ofNat_succ_ne_zero (n : Nat) (h : n < 65535) : BitVec.ofNat 16 (n + 1) ≠ 0#16 := by
  intro h2
  have h3 := congrArg BitVec.toNat h2
  simp only [BitVec.toNat_ofNat, Nat.zero_mod] at h3
  omega

/-- The period of `n + 1` ticks. -/
def Period.ofPred (n : Fin 65535) : Period :=
  ⟨BitVec.ofNat 16 (n.val + 1), ofNat_succ_ne_zero n.val n.isLt⟩

/-- FREE VALUE (U10, log 3): one less than `MAXDUTY`. -/
opaque Config.maxDutyLessOne : Fin 65535

/-- FREE VALUE (U10, log 3): one less than `MAXDUTY_1K`. -/
opaque Config.maxDuty1kLessOne : Fin 65535

/-- `MAXDUTY` of rule R10: open, 1 to 65535. -/
def Config.maxDuty : Period := Period.ofPred Config.maxDutyLessOne

/-- `MAXDUTY_1K` of rule R10: open, 1 to 65535. -/
def Config.maxDuty1k : Period := Period.ofPred Config.maxDuty1kLessOne

/-- FREE VALUE (U12, R60 item 4, log 4): who moves at the n-th draw, where the agenda names nobody. -/
opaque Config.freeMove : Nat → Move

/-- FREE VALUE (U12, R60 item 2, log 6): the timer events that fall before a step inside CMD or INIT. -/
opaque Config.freeGap : Nat → List TimerEvent

/-- FREE VALUE (U8, log 8): the bits of the NaN that an operation produces from these operands. -/
opaque Config.freeNaN : FloatOp → F32 → F32 → BitVec 32

/-- FREE VALUE (U15, log 13): the status indicator before the first loop iteration. -/
opaque Config.freeIndicator : Indicator

/-- `CLAMP_INPUT` of rules R10 and R106: the gauge reading is not clamped before the polynomial. -/
def Config.clampInput : Bool := false

/-- `ECHO_CAP` of rules R10 and R153. -/
def Config.echoCap : Nat := 64

end Sys2Proof
end

