-- ==== Sys2Proof/Machine/State.lean ====
section
/-!
DEFINITION. The state: every element of rule R20, the port and the command loop of the agents around
the block (R36, R43, R154), the parameters carried as data (R10), and the model's own fields.
-/
namespace Sys2Proof.Machine

/-- A datapath register (rule R21) with whether a step has written it since reset (rules R23, R40). -/
structure Latch (w : Nat) where
  val : BitVec w
  written : Bool
deriving DecidableEq, Repr

/-- One 16-bit value per channel (rules R31, R32). -/
structure Duties where
  ch1 : Half
  ch2 : Half
  ch3 : Half
deriving DecidableEq, Repr

/-- Rule R154: the four states of the command loop. -/
inductive LoopPhase where
  | waitForData
  | consume
  | echo
  | idle
deriving DecidableEq, Repr

/-- The environment around the block (file 43): the command loop, its echo buffer and the status
indicator. -/
structure Env where
  /-- rule R154 -/
  phase : LoopPhase
  /-- EchoBuffer, rule R153 -/
  buf : List Byte
  /-- `off` of rule R158 -/
  off : Nat
  /-- the bytes written back to the transport in the current event, oldest first (rule R158) -/
  echoed : List Byte
  /-- byte 0 of the event, until it stands on the command port (rule R157) -/
  toOffer : Option Byte
  /-- rule R161 -/
  led : Indicator
deriving DecidableEq, Repr

structure State where
  /-- `CB` = x[0] (R21) -/
  cb : Latch 8
  /-- `PCT` = x[1] (R21) -/
  pct : Latch 32
  /-- `RD` = x[2] (R21) -/
  rd : Latch 32
  /-- `DF` = x[3] (R21) -/
  df : Latch 32
  /-- `DC` = x[4] (R21) -/
  dc : Latch 16
  /-- `MAXD` = x[5] (R21) -/
  maxd : Latch 16
  /-- `SEQ`, the program counter (R24) -/
  seq : StepCode
  /-- `PWM_FSEL` (R28) -/
  fsel : Freq
  /-- `PWM_EN`, bit `ch - 1` for channel `ch` (R30) -/
  en : BitVec 3
  /-- `DUTY_SH[1..3]` (R31) -/
  dutySh : Duties
  /-- `DUTY_ACT[1..3]` (R32) -/
  dutyAct : Duties
  /-- `CNT` (R33) -/
  cnt : Half
  /-- the model's own: the 16-bit result that a read returned last on the transaction bus (R73) -/
  busRead : Half
  /-- the model's own: a duty has been written since the last period boundary (R16 Settled; log 24) -/
  dutyPending : Bool
  /-- `MAXDUTY`, fixed while the block runs (R10, R166) -/
  maxDuty : Period
  /-- `MAXDUTY_1K`, fixed while the block runs (R10, R166) -/
  maxDuty1k : Period
  /-- the command port as the host holds it: `cmd_valid` with `cmd_data`, or nothing (R36) -/
  offer : Option Byte
  /-- the environment's command loop (file 43) -/
  env : Env
  /-- the model's own: R171's record of the first datapath register read while unwritten -/
  unwrittenRead : Option DataReg
  /-- the model's own: who moves next, in order (R60 item 4) -/
  agenda : List Turn
  /-- the model's own: how many free values have been drawn -/
  drawn : Nat
deriving DecidableEq, Repr

/-- The faults of the model. -/
inductive Fault where
  /-- Rule R115, R171: raised by SETDUTY (and so by S_PR2, S_PR3, S_WR2, S_WR3 and CMD) when
  `v > PWM_PERIOD`, with `ch`, `v` and `PWM_PERIOD`. Safe: the spec gives the write no effect. -/
  | dutyOutOfRange (ch : Channel) (v period : Half)
deriving DecidableEq, Repr

/-- The refusals of the model. -/
inductive Refusal where
  /-- Raised by exec's arm of an instruction without a meaning. Safe. -/
  | notModelled (mnemonic : String)
  /-- Rule R79, R171: raised by the PWM controller on a word that matches no row. Safe. -/
  | reservedTransaction (word : Tx)
  /-- Rule R25, R171: raised by the sequencer when `SEQ` is 12 to 15. Safe. -/
  | reservedSeq (seq : StepCode)
  /-- Rule R10, R171: raised when a model is constructed with a parameter outside 1 to 65535. Safe. -/
  | badParameter (value : Nat)
deriving DecidableEq, Repr

/-- A datapath register after reset: unwritten (R40). DESIGN CHOICE (log 1): it reads as zero. -/
def Latch.unwritten (w : Nat) : Latch w := ⟨0, false⟩

/-- The command loop before its first iteration (log 13); the indicator is a free value (U15). -/
def Env.start : Env :=
  { phase := .waitForData, buf := [], off := 0, echoed := [], toOffer := none,
    led := Config.freeIndicator }

/-- Rule R40: the machine right after reset. -/
def State.reset : State :=
  { cb := Latch.unwritten 8, pct := Latch.unwritten 32, rd := Latch.unwritten 32,
    df := Latch.unwritten 32, dc := Latch.unwritten 16, maxd := Latch.unwritten 16,
    seq := 0#4, fsel := .f1k, en := 0#3, dutySh := ⟨0#16, 0#16, 0#16⟩,
    dutyAct := ⟨0#16, 0#16, 0#16⟩, cnt := 0#16, busRead := 0#16, dutyPending := false,
    maxDuty := Config.maxDuty, maxDuty1k := Config.maxDuty1k, offer := none, env := Env.start,
    unwrittenRead := none, agenda := [], drawn := 0 }

end Sys2Proof.Machine
end

