-- ==== Sys2Proof/Syntax.lean ====
section
/-!
DEFINITION. The operations of spec/opcode_table.json, one constructor per row (rule R77: 21 rows).
-/
namespace Sys2Proof

inductive Instr where
  /-- CMD b (format C, rule R142) -/
  | cmd (b : Byte)
  /-- SETFREQ f (format T, rule R111) -/
  | setfreq (f : Freq)
  /-- MAXDUTY (format T, rule R112) -/
  | maxduty
  /-- ENABLE 1 (format T, rule R113) -/
  | enable1
  /-- ENABLE 2 (format T, rule R113) -/
  | enable2
  /-- ENABLE 3 (format T, rule R113) -/
  | enable3
  /-- SETDUTY 1, v (format T, rule R114) -/
  | setduty1 (v : Half)
  /-- SETDUTY 2, v (format T, rule R114) -/
  | setduty2 (v : Half)
  /-- SETDUTY 3, v (format T, rule R114) -/
  | setduty3 (v : Half)
  /-- step 0 (format S, rule R132) -/
  | sFreq
  /-- step 1 (format S, rule R133) -/
  | sMaxq
  /-- step 2 (format S, rule R134) -/
  | sEn1
  /-- step 3 (format S, rule R134) -/
  | sEn2
  /-- step 4 (format S, rule R134) -/
  | sEn3
  /-- step 5 (format S, rule R135) -/
  | sDef
  /-- step 6 (format S, rule R136) -/
  | sPr2
  /-- step 7 (format S, rule R136) -/
  | sPr3
  /-- step 8 (format S, rule R137) -/
  | sWait
  /-- step 9 (format S, rule R138) -/
  | sMap
  /-- step 10 (format S, rule R140) -/
  | sWr2
  /-- step 11 (format S, rule R140) -/
  | sWr3
deriving DecidableEq, Repr

end Sys2Proof
end

