-- ==== Sys2Proof/WellFormed.lean ====
section
/-!
DEFINITION. What a well-formed word, turn and instruction are. Every operand of `Instr` has exactly
the values its encoding admits as its type (rules R72, R75), so every instruction is well formed
(rule R85); what can be ill formed is a word (R25, R79) and a choice of parameters (R10).
-/
namespace Sys2Proof

/-- A word that is not reserved (rules R25, R78, R79): every byte, every transaction word not listed
in R79, every step code below 12. -/
def CodeWord.wf : CodeWord → Bool
  | .command _ => true
  | .transaction w => !Tx.reserved w
  | .stepCode c => !StepCode.reserved c

/-- Rule R85: every instruction is well formed. -/
def Instr.wf (_ : Instr) : Bool := true

/-- The range of a parameter (rule R10). -/
def paramOk (n : Nat) : Bool := 1 ≤ n && n ≤ 65535

/-- A turn whose word is not reserved and whose parameters are in range. -/
def Turn.wf : Turn → Bool
  | .move _ => true
  | .transaction w => (CodeWord.transaction w).wf
  | .command _ => true
  | .init => true
  | .powerOn m k => paramOk m && paramOk k

end Sys2Proof
end

