-- ==== Sys2Proof/Machine/Ops.lean ====
section
/-!
DEFINITION. The named operations over the state: sequencing of outcomes, writes of the registers, reads
that note an unwritten register, the PWM register space (`MemRead`, `MemWrite` of rule R13 over the
map of rule R51), and reset. There is no exception to take and none to return from (R170, R174, R175):
reset is the only event that diverts the sequencer.
-/
namespace Sys2Proof.Machine

abbrev Result := Host.Outcome State Fault Refusal

/-- The next action, on the state the first one leaves; a fault or a refusal ends the step. -/
def thenDo (o : Result) (k : State → Result) : Result :=
  match o with
  | .next s => k s
  | .fault r => .fault r
  | .refused r => .refused r

/-- A value written into a datapath register. -/
def Latch.of {w : Nat} (v : BitVec w) : Latch w := ⟨v, true⟩

def State.setSeq (c : StepCode) (s : State) : State := { s with seq := c }
def State.writeCb (v : Byte) (s : State) : State := { s with cb := Latch.of v }
def State.writePct (v : F32) (s : State) : State := { s with pct := Latch.of v }
def State.writeRd (v : F32) (s : State) : State := { s with rd := Latch.of v }
def State.writeDf (v : F32) (s : State) : State := { s with df := Latch.of v }
def State.writeDc (v : Half) (s : State) : State := { s with dc := Latch.of v }
def State.writeMaxd (v : Half) (s : State) : State := { s with maxd := Latch.of v }
def State.setFsel (f : Freq) (s : State) : State := { s with fsel := f }
def State.setEn (e : BitVec 3) (s : State) : State := { s with en := e }
def State.setBusRead (v : Half) (s : State) : State := { s with busRead := v }
def State.setOffer (o : Option Byte) (s : State) : State := { s with offer := o }
def State.setEnv (e : Env) (s : State) : State := { s with env := e }
def State.setAgenda (a : List Turn) (s : State) : State := { s with agenda := a }
def State.setTimer (c : Half) (d : Duties) (p : Bool) (s : State) : State :=
  { s with cnt := c, dutyAct := d, dutyPending := p }
def State.draw (s : State) : State := { s with drawn := s.drawn + 1 }

/-- The value of one channel. -/
def Duties.get (d : Duties) : Channel → Half
  | .ch1 => d.ch1
  | .ch2 => d.ch2
  | .ch3 => d.ch3

/-- One channel's value replaced. -/
def Duties.set (d : Duties) (ch : Channel) (v : Half) : Duties :=
  match ch with
  | .ch1 => { d with ch1 := v }
  | .ch2 => { d with ch2 := v }
  | .ch3 => { d with ch3 := v }

/-- A shadow duty written; no period boundary has come since (R16, log 24). -/
def State.setDutySh (ch : Channel) (v : Half) (s : State) : State :=
  { s with dutySh := s.dutySh.set ch v, dutyPending := true }

/-- Rule R171 UnwrittenRegister: the read of a datapath register is noted when no step has written it
since reset; the first such read is kept, and the read gives what the register holds (log 2). -/
def State.noteRead (x : DataReg) (written : Bool) (s : State) : State :=
  { s with unwrittenRead := if written || s.unwrittenRead.isSome then s.unwrittenRead else some x }

/-- Rule R29: the counter period that `PWM_FSEL` selects. -/
def State.pwmPeriod (s : State) : Half :=
  match s.fsel with
  | .f10k => s.maxDuty.ticks
  | .f1k => s.maxDuty1k.ticks

/-- `MemRead(a, 1)` of rule R13 over the map of rule R51: only `PWM_PERIOD` is readable (R79); the
result goes on the bus (R73). -/
def State.memRead (a : RegAddr) (s : State) : Result :=
  if a = 1#3 then .next (s.setBusRead s.pwmPeriod)
  else .refused (.reservedTransaction (Tx.mk false a 0#16))

/-- `MemWrite(a, 1, v)` of rule R13 over the map of rule R51, with the writes that rules R28 to R30 and
R58 call reserved. -/
def State.memWrite (a : RegAddr) (v : Half) (s : State) : Result :=
  match a.toNat with
  | 0 =>
    if v = 0#16 then .next (s.setFsel .f1k)
    else if v = 1#16 then .next (s.setFsel .f10k)
    else .refused (.reservedTransaction (Tx.mk true a v))
  | 2 =>
    if v = 1#16 ∨ v = 2#16 ∨ v = 4#16 then .next (s.setEn (s.en ||| v.extractLsb' 0 3))
    else .refused (.reservedTransaction (Tx.mk true a v))
  | 5 => .next (s.setDutySh .ch1 v)
  | 6 => .next (s.setDutySh .ch2 v)
  | 7 => .next (s.setDutySh .ch3 v)
  | _ => .refused (.reservedTransaction (Tx.mk true a v))

/-- What register `a` of the PWM register space holds (rules R28 to R31, R51); the reserved addresses
hold nothing, given as `none`. -/
def State.pwmReg (a : RegAddr) (s : State) : Option Half :=
  match a.toNat with
  | 0 => some s.fsel.data
  | 1 => some s.pwmPeriod
  | 2 => some (s.en.zeroExtend 16)
  | 5 => some s.dutySh.ch1
  | 6 => some s.dutySh.ch2
  | 7 => some s.dutySh.ch3
  | _ => none

/-- Rule R191: `rst`, in one step, puts every element of rule R20 at its value of rule R40. The byte on
offer stays with the host (R191), the parameters stay fixed (R166), the environment is not the block's
(R7), and R171's record is never cleared by a step. -/
def State.resetBlock (s : State) : State :=
  { State.reset with
    maxDuty := s.maxDuty, maxDuty1k := s.maxDuty1k, offer := s.offer, env := s.env,
    unwrittenRead := s.unwrittenRead, agenda := s.agenda, drawn := s.drawn }

/-- A period from the number the host chose, if it is in range (rule R10). -/
def Period.make (n : Nat) : Option Period :=
  if h : BitVec.ofNat 16 n ≠ 0#16 ∧ paramOk n then some ⟨BitVec.ofNat 16 n, h.1⟩ else none

/-- Rules R166, R171, R182, R190, R191: power is applied with parameters chosen by the host. Everything
starts as after reset, but a byte on offer is still with the host (R39, R191); a parameter out of range
is refused with its value. DESIGN CHOICE (log 14): where both are out of range, with `MAXDUTY`'s. -/
def State.powerOn (maxDuty maxDuty1k : Nat) (s : State) : Result :=
  match Period.make maxDuty, Period.make maxDuty1k with
  | some m, some k =>
    .next { State.reset with maxDuty := m, maxDuty1k := k, offer := s.offer, agenda := s.agenda,
                             drawn := s.drawn }
  | none, _ => .refused (.badParameter maxDuty)
  | some _, none => .refused (.badParameter maxDuty1k)

end Sys2Proof.Machine
end

