-- ==== Sys2Proof/Machine/Flags.lean ====
section
/-!
DEFINITION. The block has no flags or condition codes, and no operation sets a status bit (rules R26,
R105, R122). What a neighbour can observe is computed from the state: `cmd_ready` (R36), `pwm_out`
(R37, R117), and the two kinds of state that claims are stated of (R16, R204).
-/
namespace Sys2Proof.Machine

/-- Rule R36: `cmd_ready = 1` exactly when `SEQ = S_WAIT`. -/
def State.cmdReady (s : State) : Bool := s.seq = 8#4

/-- Rule R30: `PWM_EN[ch]` is bit `ch - 1`. -/
def State.enabled (ch : Channel) (s : State) : Bool := s.en.getLsbD (ch.number - 1)

/-- Rule R117: the output of a channel. -/
def State.pwmOut (ch : Channel) (s : State) : Bool := s.enabled ch && s.cnt < s.dutyAct.get ch

/-- `SEQ = S_WAIT` and the host is offering no byte. -/
def State.waiting (s : State) : Bool := s.seq = 8#4 && s.offer.isNone

/-- Rule R171: an UnwrittenRegister is on record; no step clears it (log 2). -/
def State.faulted (s : State) : Bool := s.unwrittenRead.isSome

/-- Rules R16, R204 Quiescent: `SEQ = S_WAIT` and the host is offering no byte; a faulted state is never
quiescent (R171). -/
def State.quiescent (s : State) : Bool := s.waiting && !s.faulted

/-- Rule R204 Settled: quiescent, and every active duty is its shadow. -/
def State.settled (s : State) : Bool := s.quiescent && s.dutyAct = s.dutySh

/-- Rule R16 Settled, the narrower form (log 24): quiescent, and a period boundary has come since the last
SETDUTY. -/
def State.settledByBoundary (s : State) : Bool := s.quiescent && !s.dutyPending

end Sys2Proof.Machine
end

