-- ==== Sys2Proof/Decode.lean ====
section
/-!
DEFINITION. The decoder, total on every word of the three formats (rule R85), the encoder written from
the same tables (R71, R74, R76), and the host's numbering of the opcode table's rows.
-/
namespace Sys2Proof

/-- What a word decodes to: an operation, or "reserved" with the word itself (rule R85). -/
inductive Decoded where
  | instr (i : Instr)
  /-- rule R79 -/
  | reservedTransaction (w : Tx)
  /-- rule R25 -/
  | reservedSeq (c : StepCode)
deriving DecidableEq, Repr

/-- Rule R74: the rows in the order of the table, the first match wins; a word that matches no row is
reserved (R79). -/
def decodeTransaction (w : Tx) : Decoded :=
  if w &&& 0xFFFFE#20 = 0x80000#20 then .instr (.setfreq (Freq.ofBit (w.getLsbD 0)))
  else if w &&& 0xFFFFF#20 = 0x10000#20 then .instr .maxduty
  else if w &&& 0xFFFFF#20 = 0xA0001#20 then .instr .enable1
  else if w &&& 0xFFFFF#20 = 0xA0002#20 then .instr .enable2
  else if w &&& 0xFFFFF#20 = 0xA0004#20 then .instr .enable3
  else if w &&& 0xF0000#20 = 0xD0000#20 then .instr (.setduty1 (Tx.data w))
  else if w &&& 0xF0000#20 = 0xE0000#20 then .instr (.setduty2 (Tx.data w))
  else if w &&& 0xF0000#20 = 0xF0000#20 then .instr (.setduty3 (Tx.data w))
  else .reservedTransaction w

/-- Rule R76: the step that a code names. -/
def decodeStep (c : StepCode) : Decoded :=
  match c.toNat with
  | 0 => .instr .sFreq
  | 1 => .instr .sMaxq
  | 2 => .instr .sEn1
  | 3 => .instr .sEn2
  | 4 => .instr .sEn3
  | 5 => .instr .sDef
  | 6 => .instr .sPr2
  | 7 => .instr .sPr3
  | 8 => .instr .sWait
  | 9 => .instr .sMap
  | 10 => .instr .sWr2
  | 11 => .instr .sWr3
  | _ => .reservedSeq c

/-- Rule R85: decoding by the place the word travels (R70); every byte is `CMD b` (R71). -/
def decode : CodeWord → Decoded
  | .command b => .instr (.cmd b)
  | .transaction w => decodeTransaction w
  | .stepCode c => decodeStep c

/-- The word of an instruction, from the field columns of rules R71, R74 and R76. -/
def encode : Instr → CodeWord
  | .cmd b => .command b
  | .setfreq f => .transaction (Tx.mk true 0#3 f.data)
  | .maxduty => .transaction (Tx.mk false 1#3 0#16)
  | .enable1 => .transaction (Tx.mk true 2#3 0x0001#16)
  | .enable2 => .transaction (Tx.mk true 2#3 0x0002#16)
  | .enable3 => .transaction (Tx.mk true 2#3 0x0004#16)
  | .setduty1 v => .transaction (Tx.mk true 5#3 v)
  | .setduty2 v => .transaction (Tx.mk true 6#3 v)
  | .setduty3 v => .transaction (Tx.mk true 7#3 v)
  | .sFreq => .stepCode 0#4
  | .sMaxq => .stepCode 1#4
  | .sEn1 => .stepCode 2#4
  | .sEn2 => .stepCode 3#4
  | .sEn3 => .stepCode 4#4
  | .sDef => .stepCode 5#4
  | .sPr2 => .stepCode 6#4
  | .sPr3 => .stepCode 7#4
  | .sWait => .stepCode 8#4
  | .sMap => .stepCode 9#4
  | .sWr2 => .stepCode 10#4
  | .sWr3 => .stepCode 11#4

/-- The word that the opcode table's numbering means by `nbits` bits `w` (DESIGN CHOICE, log 5): the
table gives no place of travel (R70), so more than 8 bits is a transaction word, at most 4 bits a
step code; of 8 bits, which a row of format C and a row of format S padded to a byte share, a value
below 12 is read as the step code and any other as the command byte. -/
def tableWord (nbits w : Nat) : CodeWord :=
  if 8 < nbits then .transaction (BitVec.ofNat 20 w)
  else if nbits ≤ 4 || w < 12 then .stepCode (BitVec.ofNat 4 w)
  else .command (BitVec.ofNat 8 w)

/-- What the decoder reads from the opcode table's `nbits` bits `w`; `none` where it refuses, and where
`w` has bits beyond its format's length (R81). -/
def decodeTableWord (nbits w : Nat) : Option Instr :=
  if (8 < nbits && 2 ^ 20 ≤ w) || (nbits ≤ 8 && 2 ^ 8 ≤ w) || (nbits ≤ 4 && 2 ^ 4 ≤ w) then none
  else
    match decode (tableWord nbits w) with
    | .instr i => some i
    | _ => none

end Sys2Proof
end

