-- ==== Sys2Proof/Machine/Controller.lean ====
section
/-!
DEFINITION. The PWM channel controller's operations (file 41): SETFREQ, MAXDUTY, ENABLE, SETDUTY, and the
issue of a transaction word on the bus.
-/
namespace Sys2Proof.Machine

/-- Rule R113, for any channel: `MemWrite(2, 1, 1 << (ch - 1))`. -/
def enableChannel (ch : Channel) (s : State) : Result := s.memWrite 2#3 ch.enableData

/-- Rule R114, for any channel: an out-of-range duty is the model's fault (R115), any other is
`MemWrite(4 + ch, 1, v)`. -/
def setDuty (ch : Channel) (v : Half) (s : State) : Result :=
  if s.pwmPeriod < v then .fault (.dutyOutOfRange ch v s.pwmPeriod) else s.memWrite ch.dutyAddr v

/-- SETFREQ f, rule R111. DESIGN CHOICE (log 23): a duty held above a period that this shortens stays
held, and the run goes on; only a write above the period is the fault of R115. -/
def execSetfreq (f : Freq) (s : State) : Result := s.memWrite 0#3 f.data

/-- MAXDUTY, rule R112: the result goes on the bus, no other state changes. -/
def execMaxduty (s : State) : Result := s.memRead 1#3

/-- ENABLE 1, rule R113. -/
def execEnable1 (s : State) : Result := enableChannel .ch1 s

/-- ENABLE 2, rule R113. -/
def execEnable2 (s : State) : Result := enableChannel .ch2 s

/-- ENABLE 3, rule R113. -/
def execEnable3 (s : State) : Result := enableChannel .ch3 s

/-- SETDUTY 1, v, rule R114. -/
def execSetduty1 (v : Half) (s : State) : Result := setDuty .ch1 v s

/-- SETDUTY 2, v, rule R114. -/
def execSetduty2 (v : Half) (s : State) : Result := setDuty .ch2 v s

/-- SETDUTY 3, v, rule R114. -/
def execSetduty3 (v : Half) (s : State) : Result := setDuty .ch3 v s

/-- The controller's answer to one transaction word: the operation of rule R74 it matches, or the refusal
of a reserved word (R79). The sequencer issues a word and it is complete before the next (R60). -/
def issue (w : Tx) (s : State) : Result :=
  match decode (.transaction w) with
  | .instr (.setfreq f) => execSetfreq f s
  | .instr .maxduty => execMaxduty s
  | .instr .enable1 => execEnable1 s
  | .instr .enable2 => execEnable2 s
  | .instr .enable3 => execEnable3 s
  | .instr (.setduty1 v) => execSetduty1 v s
  | .instr (.setduty2 v) => execSetduty2 v s
  | .instr (.setduty3 v) => execSetduty3 v s
  | _ => .refused (.reservedTransaction w)

end Sys2Proof.Machine
end

