-- ==== Sys2Proof/Machine/Float.lean ====
section
/-!
DEFINITION. IEEE 754 binary32 as rules R91 and R105 take it: round to nearest, ties to even, subnormals
kept, no flags. Every finite binary32 value is a whole number of units of 2^-149, so sums, products and
quotients are formed exactly over the integers and rounded once, in `F32.roundMagnitude`.
-/
namespace Sys2Proof

/-- Bit 31 (rule R91). -/
def F32.sign (x : F32) : Bool := x.getLsbD 31

/-- Bits 30:0: exponent and fraction read as one number (rule R91). -/
def F32.magnitude (x : F32) : Nat := x.toNat % 2 ^ 31

/-- The magnitude of infinity: exponent all ones, fraction zero. -/
def F32.infMagnitude : Nat := 0x7F800000

def F32.isNaN (x : F32) : Bool := F32.infMagnitude < F32.magnitude x

def F32.isInf (x : F32) : Bool := F32.magnitude x = F32.infMagnitude

def F32.isZero (x : F32) : Bool := F32.magnitude x = 0

def F32.isFinite (x : F32) : Bool := F32.magnitude x < F32.infMagnitude

/-- The value of a finite magnitude, in units of 2^-149: the fraction alone where the exponent field is
0, and with its hidden bit, scaled, where it is not (rule R91). -/
def F32.magnitudeUnits (p : Nat) : Nat :=
  if p / 2 ^ 23 = 0 then p else (p % 2 ^ 23 + 2 ^ 23) * 2 ^ (p / 2 ^ 23 - 1)

/-- `real(x)` of rule R13 for a finite `x`, in units of 2^-149. -/
def F32.units (x : F32) : Int :=
  if F32.sign x then -(F32.magnitudeUnits (F32.magnitude x) : Int)
  else (F32.magnitudeUnits (F32.magnitude x) : Int)

/-- The binary32 magnitude nearest to `n / d` units, ties to even, infinity beyond the largest finite
value (rule R91; the overflow rule is PRESUMED from IEEE 754, log 9). -/
def F32.roundMagnitude (n d : Nat) : Nat :=
  let k := Nat.log2 (n / d) - 23
  let g := d * 2 ^ k
  let m := n / g
  let r := n % g
  let m' := if 2 * r < g then m else if 2 * r = g ∧ m % 2 = 0 then m else m + 1
  min (k * 2 ^ 23 + m') F32.infMagnitude

/-- The pattern with this sign and magnitude. -/
def F32.pack (sign : Bool) (magnitude : Nat) : F32 :=
  BitVec.ofBool sign ++ BitVec.ofNat 31 magnitude

/-- A NaN whose pattern is not specified (U8, log 8): the free bits, with the exponent all ones and the
fraction not zero. -/
def F32.nan (op : FloatOp) (a b : F32) : F32 :=
  let p := Config.freeNaN op a b ||| 0x7F800000#32
  if F32.magnitude p = F32.infMagnitude then p ||| 1#32 else p

/-- The number `n`, evaluated before it is used: the same value as `k n`. Lean's kernel would otherwise carry
an operand along unevaluated and evaluate it again at each use. -/
def evalFirst {α : Type} (n : Nat) (k : Nat → α) : α :=
  match n with
  | 0 => k 0
  | m + 1 => k (m + 1)

/-- The operation on operands evaluated first: the same function as `op`. -/
def F32.byValue (op : F32 → F32 → F32) (a b : F32) : F32 :=
  evalFirst a.toNat fun x => evalFirst b.toNat fun y => op (BitVec.ofNat 32 x) (BitVec.ofNat 32 y)

/-- Addition (rule R91): the exact sum, rounded once; a zero sum is +0 but for two negative zeros. -/
def F32.add (a b : F32) : F32 :=
  if F32.isNaN a || F32.isNaN b then F32.nan .add a b
  else if F32.isInf a then
    if F32.isInf b && F32.sign a != F32.sign b then F32.nan .add a b else a
  else if F32.isInf b then b
  else
    let sum := F32.units a + F32.units b
    if sum = 0 then F32.pack (F32.sign a && F32.sign b) 0
    else F32.pack (sum < 0) (F32.roundMagnitude sum.natAbs 1)

/-- Multiplication (rule R91): the exact product, rounded once. -/
def F32.mul (a b : F32) : F32 :=
  let sign := F32.sign a != F32.sign b
  if F32.isNaN a || F32.isNaN b then F32.nan .mul a b
  else if F32.isInf a then
    if F32.isZero b then F32.nan .mul a b else F32.pack sign F32.infMagnitude
  else if F32.isInf b then
    if F32.isZero a then F32.nan .mul a b else F32.pack sign F32.infMagnitude
  else F32.pack sign (F32.roundMagnitude ((F32.units a).natAbs * (F32.units b).natAbs) (2 ^ 149))

/-- Division (rule R91): the exact quotient, rounded once. -/
def F32.div (a b : F32) : F32 :=
  let sign := F32.sign a != F32.sign b
  if F32.isNaN a || F32.isNaN b then F32.nan .div a b
  else if F32.isInf a then
    if F32.isInf b then F32.nan .div a b else F32.pack sign F32.infMagnitude
  else if F32.isInf b then F32.pack sign 0
  else if F32.isZero b then
    if F32.isZero a then F32.nan .div a b else F32.pack sign F32.infMagnitude
  else F32.pack sign (F32.roundMagnitude ((F32.units a).natAbs * 2 ^ 149) (F32.units b).natAbs)

/-- `fadd` of rule R13. -/
def fadd (a b : F32) : F32 := F32.byValue F32.add a b

/-- `fmul` of rule R13. -/
def fmul (a b : F32) : F32 := F32.byValue F32.mul a b

/-- `fdiv` of rule R13. -/
def fdiv (a b : F32) : F32 := F32.byValue F32.div a b

/-- `u8_to_f32` of rule R13: exact. -/
def u8ToF32 (b : Byte) : F32 :=
  evalFirst b.toNat fun n => F32.pack false (F32.roundMagnitude (n * 2 ^ 149) 1)

/-- `trunc(real(x))` of rule R98 for a finite `x`: rounding toward zero. -/
def F32.trunc (x : F32) : Int := (F32.units x).tdiv (2 ^ 149)

end Sys2Proof
end

