-- ==== Sys2Proof/Machine/Mapper.lean ====
section
/-!
DEFINITION. The calibration mapper and command datapath (file 40): the constants of rule R92 and the four
functions B2P, P2R, QMAP, F2D, with the two composites of rule R102.
-/
namespace Sys2Proof

/-- a = -0.00036 (rule R92) -/
def kA : F32 := 0xB9BCBE62#32
/-- b = 0.52171 (rule R92) -/
def kB : F32 := 0x3F058EC9#32
/-- c = 35.98441 (rule R92) -/
def kC : F32 := 0x420FF009#32
/-- 6 (rule R92) -/
def k6 : F32 := 0x40C00000#32
/-- 255 (rule R92) -/
def k255 : F32 := 0x437F0000#32
/-- 100 (rule R92) -/
def k100 : F32 := 0x42C80000#32
/-- 3 (rule R92) -/
def k3 : F32 := 0x40400000#32
/-- 150.0, the default gauge reading (rule R92) -/
def kRdef : F32 := 0x43160000#32
/-- 300, the top of the nominal scale (rule R97), used only where `CLAMP_INPUT` is true -/
def k300 : F32 := 0x43960000#32

/-- Rule R93: command byte to desired percentage, the division first. -/
def b2p (b : Byte) : F32 := fmul (fdiv (u8ToF32 b) k255) k100

/-- Rule R94: desired percentage to gauge reading, not clamped. -/
def p2r (p : F32) : F32 := fmul p k3

/-- Rule R95: gauge reading to unclamped duty, six rounded operations in this order. -/
def qmap (r : F32) : F32 :=
  let t1 := fmul r r
  let t2 := fmul kA t1
  let t3 := fmul kB r
  let t4 := fadd t2 t3
  let t5 := fadd t4 kC
  fmul t5 k6

/-- Rule R106: the reading that enters the polynomial. `CLAMP_INPUT` is false, so it is the reading. -/
def curveInput (r : F32) : F32 :=
  if Config.clampInput && F32.isFinite r then
    if F32.units r < 0 then 0#32 else if F32.units k300 < F32.units r then k300 else r
  else r

/-- Rule R98: truncation toward zero, then the clamp of the mathematical integer to [0, maxd]. -/
def F32.toDuty (x : F32) (maxd : Half) : Half :=
  if F32.isNaN x then 0#16
  else if F32.isInf x then if F32.sign x then 0#16 else maxd
  else BitVec.ofNat 16 (min (max (F32.trunc x) 0) maxd.toNat).toNat

/-- F2D of rule R98, its operand evaluated first. -/
def f2d (x : F32) (maxd : Half) : Half :=
  evalFirst x.toNat fun n => F32.toDuty (BitVec.ofNat 32 n) maxd

/-- Rule R102 `MAPB`: the duty of a command byte. -/
def mapB (b : Byte) (maxd : Half) : Half := f2d (qmap (curveInput (p2r (b2p b)))) maxd

/-- Rule R102 `MAPD`: the duty of the default reading. -/
def mapD (maxd : Half) : Half := f2d (qmap (curveInput kRdef)) maxd

end Sys2Proof
end

