-- ==== Sys2Proof/Machine/Sequencer.lean ====
section
/-!
DEFINITION. The register-write sequencer (file 42): the twelve steps of the microprogram of rule R131. A
step is atomic, its transaction included (R60); its last action writes `SEQ` (R24).
-/
namespace Sys2Proof.Machine

/-- A step whose whole action is one transaction: issue the word, then go to the successor. -/
def issueStep (w : Tx) (succ : StepCode) (s : State) : Result :=
  thenDo (issue w s) fun t => .next (t.setSeq succ)

/-- A step that writes `DC` to a channel: the read of `DC` (R23), the transaction
`{W, ADDR} ++ DC`, then the successor (rules R136, R140). -/
def writeDutyStep (head : BitVec 4) (succ : StepCode) (s : State) : Result :=
  issueStep (head ++ s.dc.val) succ (s.noteRead .dc s.dc.written)

/-- `DF <- QMAP(RD); DC <- F2D(DF, MAXD)`, the common end of S_DEF and S_MAP (rules R135, R138). -/
def mapReading (s : State) : State :=
  let s := s.writeDf (qmap (curveInput s.rd.val))
  let s := s.noteRead .maxd s.maxd.written
  s.writeDc (f2d s.df.val s.maxd.val)

/-- S_FREQ, rule R132. -/
def execSFreq (s : State) : Result := issueStep 0x80001#20 1#4 s

/-- S_MAXQ, rule R133: `MAXD` takes the result of transaction 0x10000. -/
def execSMaxq (s : State) : Result :=
  thenDo (issue 0x10000#20 s) fun t => .next ((t.writeMaxd t.busRead).setSeq 2#4)

/-- S_EN1, rule R134. -/
def execSEn1 (s : State) : Result := issueStep 0xA0001#20 3#4 s

/-- S_EN2, rule R134. -/
def execSEn2 (s : State) : Result := issueStep 0xA0002#20 4#4 s

/-- S_EN3, rule R134. -/
def execSEn3 (s : State) : Result := issueStep 0xA0004#20 5#4 s

/-- S_DEF, rule R135. -/
def execSDef (s : State) : Result := .next ((mapReading (s.writeRd kRdef)).setSeq 6#4)

/-- S_PR2, rule R136. -/
def execSPr2 (s : State) : Result := writeDutyStep 0xE#4 7#4 s

/-- S_PR3, rule R136. -/
def execSPr3 (s : State) : Result := writeDutyStep 0xF#4 8#4 s

/-- S_WAIT, rule R137: a byte on offer is transferred, which ends the offer (R139, log 7); with none
offered the step completes and is performed again. -/
def execSWait (s : State) : Result :=
  match s.offer with
  | some b => .next (((s.writeCb b).setOffer none).setSeq 9#4)
  | none => .next (s.setSeq 8#4)

/-- S_MAP, rule R138. -/
def execSMap (s : State) : Result :=
  let s := s.noteRead .cb s.cb.written
  let s := s.writePct (b2p s.cb.val)
  let s := s.writeRd (p2r s.pct.val)
  .next ((mapReading s).setSeq 10#4)

/-- S_WR2, rule R140. -/
def execSWr2 (s : State) : Result := writeDutyStep 0xE#4 11#4 s

/-- S_WR3, rule R140. -/
def execSWr3 (s : State) : Result := writeDutyStep 0xF#4 8#4 s

/-- The step that `SEQ` names (rules R130, R131); a reserved code is refused (R25). -/
def seqStep (s : State) : Result :=
  match decode (.stepCode s.seq) with
  | .instr .sFreq => execSFreq s
  | .instr .sMaxq => execSMaxq s
  | .instr .sEn1 => execSEn1 s
  | .instr .sEn2 => execSEn2 s
  | .instr .sEn3 => execSEn3 s
  | .instr .sDef => execSDef s
  | .instr .sPr2 => execSPr2 s
  | .instr .sPr3 => execSPr3 s
  | .instr .sWait => execSWait s
  | .instr .sMap => execSMap s
  | .instr .sWr2 => execSWr2 s
  | .instr .sWr3 => execSWr3 s
  | _ => .refused (.reservedSeq s.seq)

end Sys2Proof.Machine
end

