-- ==== Sys2Proof/Machine/Timer.lean ====
section
/-!
DEFINITION. The PWM timer (file 41, section 3): TICK and PBOUND, and the events that fall between two
steps inside a composite operation.
-/
namespace Sys2Proof.Machine

/-- PBOUND, rule R119: all three channels load in the same event. -/
def pbound (s : State) : State := s.setTimer 0#16 s.dutySh false

/-- TICK, rule R118. -/
def tick (s : State) : State :=
  if s.pwmPeriod.toNat ≤ s.cnt.toNat + 1 then pbound s
  else s.setTimer (s.cnt + 1#16) s.dutyAct s.dutyPending

/-- One event of the timer. -/
def timerEvent (s : State) : TimerEvent → State
  | .tick => tick s
  | .pbound => pbound s

/-- Timer events in order. -/
def timerEvents (es : List TimerEvent) (s : State) : State := es.foldl timerEvent s

/-- The timer events that fall between two steps inside CMD or INIT (rules R56, R60 item 2): a free list
of events (log 6). They reach only `CNT` and `DUTY_ACT`, and the record of R16. -/
def timerGap (s : State) : State :=
  (s.setTimer (timerEvents (Config.freeGap s.drawn) s).cnt
    (timerEvents (Config.freeGap s.drawn) s).dutyAct
    (timerEvents (Config.freeGap s.drawn) s).dutyPending).draw

end Sys2Proof.Machine
end

