-- ==== Sys2Proof/Machine/Command.lean ====
section
/-!
DEFINITION. The composite operations of file 42, section 4: INIT (R141) and CMD b (R142). Timer events may
fall before each of their steps (R60); no reset cuts them (log 6).
-/
namespace Sys2Proof.Machine

/-- `n` steps of the sequencer, timer events falling before each. -/
def sequencerRun : Nat → State → Result
  | 0, s => .next s
  | n + 1, s => thenDo (seqStep (timerGap s)) (sequencerRun n)

/-- Steps of the sequencer until it waits at S_WAIT with no byte on offer, at most `n` of them. -/
def runToWaiting : Nat → State → Result
  | 0, s => .next s
  | n + 1, s =>
    if s.waiting then .next s else thenDo (seqStep (timerGap s)) (runToWaiting n)

/-- INIT, rules R83, R141: eight steps from `SEQ = 0`. DESIGN CHOICE (log 6): where `SEQ` is not 0 the rules
give INIT no meaning, and it is eight steps from where `SEQ` is; and it ends with the eighth step, so that
a period boundary after S_PR3 is a turn of its own. -/
def initRun (s : State) : Result := sequencerRun 8 s

/-- CMD b, rules R82, R142: the host holds `b` back until the block waits for one (R139, R200; at most
twelve steps, log 6), offers it, and the block runs until `SEQ = S_WAIT` again: S_WAIT, S_MAP,
S_WR2, S_WR3. -/
def execCmd (b : Byte) (s : State) : Result :=
  thenDo (runToWaiting 12 s) fun t => runToWaiting 4 (t.setOffer (some b))

end Sys2Proof.Machine
end

