-- ==== Sys2Proof/Machine/Dispatch.lean ====
section
/-!
DEFINITION. One arm per operation of the opcode table, each a direct call of its meaning.
-/
namespace Sys2Proof.Machine

def exec (i : Instr) (s : State) : Host.Outcome State Fault Refusal :=
  match i with
  | .cmd b => Sys2Proof.Machine.execCmd b s
  | .setfreq f => Sys2Proof.Machine.execSetfreq f s
  | .maxduty => Sys2Proof.Machine.execMaxduty s
  | .enable1 => Sys2Proof.Machine.execEnable1 s
  | .enable2 => Sys2Proof.Machine.execEnable2 s
  | .enable3 => Sys2Proof.Machine.execEnable3 s
  | .setduty1 v => Sys2Proof.Machine.execSetduty1 v s
  | .setduty2 v => Sys2Proof.Machine.execSetduty2 v s
  | .setduty3 v => Sys2Proof.Machine.execSetduty3 v s
  | .sFreq => Sys2Proof.Machine.execSFreq s
  | .sMaxq => Sys2Proof.Machine.execSMaxq s
  | .sEn1 => Sys2Proof.Machine.execSEn1 s
  | .sEn2 => Sys2Proof.Machine.execSEn2 s
  | .sEn3 => Sys2Proof.Machine.execSEn3 s
  | .sDef => Sys2Proof.Machine.execSDef s
  | .sPr2 => Sys2Proof.Machine.execSPr2 s
  | .sPr3 => Sys2Proof.Machine.execSPr3 s
  | .sWait => Sys2Proof.Machine.execSWait s
  | .sMap => Sys2Proof.Machine.execSMap s
  | .sWr2 => Sys2Proof.Machine.execSWr2 s
  | .sWr3 => Sys2Proof.Machine.execSWr3 s

end Sys2Proof.Machine
end

