-- ==== Sys2Proof/Machine/Environment.lean ====
section
/-!
DEFINITION. The command loop around the block (file 43): one turn of the loop of rule R154, with what the
transport answers on that turn.
-/
namespace Sys2Proof.Machine

/-- Transitions 1 and 2, the poll (rules R155, R156, R163): a receive event fills the echo buffer (R153)
and byte 0 becomes a command; no event or a read error goes to Idle, where the indicator is set
(R160). -/
def Env.poll (e : Env) : LoopInput → Env
  | .received first rest =>
    { e with phase := .consume, buf := (first :: rest).take Config.echoCap, off := 0, echoed := [],
             toOffer := some first }
  | _ => { e with phase := .idle }

/-- Transition 3, one turn of the echo loop of rule R158: a count advances `off`; 0, an error or no
answer changes nothing, and the loop tries again; the loop ends when the whole buffer is sent. -/
def Env.echoWrite (e : Env) : LoopInput → Env
  | .wrote n =>
    { e with off := e.off + min n (e.buf.length - e.off),
             echoed := e.echoed ++ (e.buf.drop e.off).take n,
             phase := if e.buf.length ≤ e.off + n then .idle else .echo }
  | _ => e

/-- Rule R157, while a command is in the block: byte 0 is put on the command port; once it has been
transferred and the block is back at S_WAIT, the indicator goes active (R156) and the echo starts. DESIGN
CHOICE (log 13): the loop looks only at the port and at S_WAIT, so a second byte that the host offers
meanwhile keeps it waiting; (log 22) after an `rst` that lost the byte, INIT's arrival at S_WAIT ends the
wait; and (log 25) the byte is put on a free port whatever `SEQ` is, during INIT and while the block is in
a command of the host's too. -/
def State.loopConsume (s : State) : State :=
  match s.env.toOffer with
  | some b =>
    if s.offer.isNone then (s.setOffer (some b)).setEnv { s.env with toOffer := none } else s
  | none =>
    if s.offer.isNone && s.seq = 8#4 then s.setEnv { s.env with phase := .echo, led := .active }
    else s

/-- One turn of the command loop (rule R154). DESIGN CHOICE (log 25): the loop polls from reset on and after
`rst`, and does not wait for the first S_WAIT. -/
def State.loopTurn (i : LoopInput) (s : State) : State :=
  match s.env.phase with
  | .waitForData => s.setEnv (s.env.poll i)
  | .consume => s.loopConsume
  | .echo => s.setEnv (s.env.echoWrite i)
  | .idle => s.setEnv { s.env with phase := .waitForData, led := .idle }

/-- The host offers a byte on the command port (R139). While one is on offer it holds that one steady
(R36, R166), so the offer changes nothing. -/
def State.hostOffer (b : Byte) (s : State) : State :=
  if s.offer.isNone then s.setOffer (some b) else s

end Sys2Proof.Machine
end

