-- ==== Sys2Proof/Machine/Agents.lean ====
section
/-!
DEFINITION. The agents' turns (rules R17, R60): who moves next, what a move does, and the fetch of an
operation from the place its word travels (R70).
-/
namespace Sys2Proof.Machine

/-- The operation that a word names, executed; a reserved word or code is refused by name (R171). -/
def runWord (w : CodeWord) (s : State) : Result :=
  match decode w with
  | .instr i => exec i s
  | .reservedTransaction t => .refused (.reservedTransaction t)
  | .reservedSeq c => .refused (.reservedSeq c)

/-- One move of one agent. -/
def runMove (m : Move) (s : State) : Result :=
  match m with
  | .sequencer => runWord (.stepCode s.seq) s
  | .timer e => .next (timerEvent s e)
  | .offer b => .next (s.hostOffer b)
  | .rst => .next s.resetBlock
  | .loop i => .next (s.loopTurn i)

/-- One turn of the agenda. -/
def runTurn (t : Turn) (s : State) : Result :=
  match t with
  | .move m => runMove m s
  | .transaction w => runWord (.transaction w) s
  | .command b => runWord (.command b) s
  | .init => initRun s
  | .powerOn m k => s.powerOn m k

/-- The turn that comes next: the head of the agenda, or where the agenda is empty a free move (R60
item 4, log 4). -/
def State.nextTurn (s : State) : Turn :=
  match s.agenda with
  | t :: _ => t
  | [] => .move (Config.freeMove s.drawn)

/-- The state in which that turn is performed: the agenda without it, or the draw counted. -/
def State.afterTurn (s : State) : State :=
  match s.agenda with
  | _ :: rest => s.setAgenda rest
  | [] => s.draw

/-- The state in which the very next turn runs the word `w` (log 5): a transaction goes on the bus; a
step code goes into `SEQ` and the sequencer moves; a command byte is accepted only at S_WAIT (R36). -/
def State.place (w : CodeWord) (s : State) : State :=
  match w with
  | .transaction t => s.setAgenda (.transaction t :: s.agenda)
  | .stepCode c => (s.setSeq c).setAgenda (.move .sequencer :: s.agenda)
  | .command b => (s.setSeq 8#4).setAgenda (.command b :: s.agenda)

end Sys2Proof.Machine
end

