-- ==== Sys2Proof/Machine/Step.lean ====
section
/-!
DEFINITION. One step of the machine: one turn of one agent, wholly before or after every other (R60, R173).
-/
namespace Sys2Proof.Machine

def step (s : State) : Host.Outcome State Fault Refusal := runTurn s.nextTurn s.afterTurn

/-- `s` with the instruction that the opcode table's `nbits` bits `w` stand for placed where the next step
runs it (log 5). -/
def State.withFetchWord (s : State) (nbits w : Nat) : State := s.place (tableWord nbits w)

end Sys2Proof.Machine
end

