-- ==== Sys2Proof/Safety.lean ====
section
/-!
DEFINITION. What counts as a run of the block, in the terms that claims use: the turns a run of the block
may hold, the invariant of rule R42 with the facts that make it inductive, the transactions a step
issues (R141, R142), the agreement of two states up to the timer (R120), endless runs and their weak
fairness (R120, R203), and stretches of turns without a period boundary (R66).
-/
namespace Sys2Proof.Machine

/-- A turn of a run of the block: no transaction from outside the sequencer (R123), and parameters in
range (R10). -/
def Turn.ofBlock : Turn → Bool
  | .transaction _ => false
  | t => Turn.wf t

/-- The invariant of rule R42, with what the microprogram has done by each step (R131). -/
structure BlockInv (s : State) : Prop where
  /-- R25: the codes 12 to 15 are never produced -/
  seq_legal : s.seq.toNat ≤ 11
  /-- R131: SETFREQ F10K is the first action -/
  fsel_set : 1 ≤ s.seq.toNat → s.fsel = .f10k
  /-- R42 item 4 at S_WAIT: the enables of the steps done so far -/
  en_set : s.en = if s.seq.toNat ≤ 2 then 0#3 else if s.seq.toNat = 3 then 1#3
    else if s.seq.toNat = 4 then 3#3 else 7#3
  /-- R23: MAXD is written before it is read -/
  maxd_written : 2 ≤ s.seq.toNat → s.maxd.written = true
  /-- R42 item 2 -/
  maxd_value : s.maxd.written = true → s.maxd.val = s.maxDuty.ticks
  /-- R23: DC is written before it is read -/
  dc_written : 6 ≤ s.seq.toNat → s.dc.written = true
  /-- R42 item 2: DC is computed after MAXD is latched -/
  maxd_before_dc : s.dc.written = true → s.maxd.written = true
  /-- R42 item 2 -/
  dc_bound : s.dc.written = true → s.dc.val ≤ s.maxDuty.ticks
  /-- R23: CB is written before it is read -/
  cb_written : s.seq.toNat = 9 → s.cb.written = true
  /-- R42 item 1 -/
  ch1_shadow : s.dutySh.ch1 = 0#16
  /-- R42 item 1 -/
  ch1_active : s.dutyAct.ch1 = 0#16
  /-- R42 item 3 -/
  shadow_bound : s.dutySh.ch2 ≤ s.maxDuty.ticks ∧ s.dutySh.ch3 ≤ s.maxDuty.ticks
  /-- R42 item 3 -/
  active_bound : s.dutyAct.ch2 ≤ s.maxDuty.ticks ∧ s.dutyAct.ch3 ≤ s.maxDuty.ticks
  /-- R42 item 4, and the first write of a pair -/
  shadow_is_dc : s.seq.toNat ∈ [7, 8, 9, 11] → s.dutySh.ch2 = s.dc.val
  /-- R42 item 5 -/
  shadows_equal : s.seq.toNat ∉ [7, 11] → s.dutySh.ch2 = s.dutySh.ch3
  /-- R16: after a boundary with no duty written since, the active duties are the shadows -/
  active_is_shadow : s.dutyPending = false → s.dutyAct = s.dutySh
  /-- R171: no UnwrittenRegister is recorded -/
  nothing_unwritten_read : s.unwrittenRead = none
  /-- R123 -/
  agenda_block : ∀ t ∈ s.agenda, Turn.ofBlock t = true

/-- The environment's invariant: what has been sent is the first `off` bytes of the buffer (R153, R158). -/
structure EchoInv (e : Env) : Prop where
  cap : e.buf.length ≤ Config.echoCap
  off_le : e.off ≤ e.buf.length
  sent : e.echoed = e.buf.take e.off
  echo_pending : e.phase = .echo → e.off < e.buf.length
  consume_fresh : e.phase = .consume → e.off = 0 ∧ e.buf ≠ []

/-- The transaction that the step named by `SEQ` issues, if it issues one (R131 to R140). -/
def State.txWord (s : State) : Option Tx :=
  match s.seq.toNat with
  | 0 => some 0x80001#20
  | 1 => some 0x10000#20
  | 2 => some 0xA0001#20
  | 3 => some 0xA0002#20
  | 4 => some 0xA0004#20
  | 6 => some (0xE#4 ++ s.dc.val)
  | 7 => some (0xF#4 ++ s.dc.val)
  | 10 => some (0xE#4 ++ s.dc.val)
  | 11 => some (0xF#4 ++ s.dc.val)
  | _ => none

/-- The transaction trace of `n` steps of the sequencer, timer events falling before each (R141, R142). -/
def seqTrace : Nat → State → List Tx
  | 0, _ => []
  | n + 1, s =>
    match seqStep (timerGap s) with
    | .next t => s.txWord.toList ++ seqTrace n t
    | _ => []

/-- Two states that differ at most in what the timer holds, `CNT` and `DUTY_ACT` (R120), and in the
model's record of its last boundary (R16). -/
def SameButTimer (s t : State) : Prop := ∃ c d p, t = s.setTimer c d p

/-- Two outcomes that agree but for what the timer holds (R120). -/
def SameOutcomeButTimer : Result → Result → Prop
  | .next s, .next t => SameButTimer s t
  | .fault f, .fault g => f = g
  | .refused r, .refused q => r = q
  | _, _ => False

/-! ### Turns in a row, and period boundaries -/

/-- `SETDUTY ch, v` (R114). -/
def Instr.setduty (ch : Channel) (v : Half) : Instr :=
  match ch with
  | .ch1 => .setduty1 v
  | .ch2 => .setduty2 v
  | .ch3 => .setduty3 v

/-- Turns in order. -/
def runTurns : List Turn → State → Result
  | [], s => .next s
  | u :: us, s => thenDo (runTurn u s) (runTurns us)

/-- Whether the turn, performed in this state, is a period boundary: PBOUND, or the TICK that ends a period
(R118, R119). -/
def Turn.isBoundary (u : Turn) (s : State) : Bool :=
  match u with
  | .move (.timer .pbound) => true
  | .move (.timer .tick) => s.pwmPeriod.toNat ≤ s.cnt.toNat + 1
  | _ => false

/-- Whether a period boundary may fall in the turn: it is one, or it is a composite, inside which timer
events fall (R60 item 2). -/
def Turn.mayCrossBoundary (u : Turn) (s : State) : Bool :=
  match u with
  | .command _ => true
  | .init => true
  | _ => Turn.isBoundary u s

/-- No period boundary falls anywhere in these turns, performed in order from `s` (R66). -/
def NoBoundary : List Turn → State → Prop
  | [], _ => True
  | u :: us, s => Turn.mayCrossBoundary u s = false ∧ ∀ t, runTurn u s = .next t → NoBoundary us t

/-! ### Endless runs -/

/-- An endless run of the block by single moves of its agents, in any order (R17, R60 item 4): `r` gives the
state before each step. Between two steps any moves may be put on the agenda, so a schedule of any kind
is a run; where it is left empty, the model's free move comes next. -/
structure BlockRun (r : Nat → State) : Prop where
  moves : ∀ n, ∀ u ∈ (r n).agenda, ∃ m, u = .move m
  steps : ∀ n, ∃ t a, step (r n) = .next t ∧ r (n + 1) = t.setAgenda a

/-- Rules R120, R203 (R17 item 7): the weak fairness that a claim about an endless run may take as a
premise. A sequencer that has an enabled step eventually takes it, and a period boundary happens
infinitely often. -/
structure Fair (r : Nat → State) : Prop where
  sequencer : ∀ n, (∀ k, n ≤ k → StepCode.reserved (r k).seq = false) →
    ∃ k, n ≤ k ∧ (r k).nextTurn = .move .sequencer
  boundary : ∀ n, ∃ k, n ≤ k ∧ Turn.isBoundary (r k).nextTurn (r k) = true

end Sys2Proof.Machine
end

