-- ==== Sys2Proof/Certificates/Slice0/Obligations.lean ====
section
/-!
DEFINITION. The statements for the provers, from the spec's numbered rules. OBLIGATIONS.json gives each its
tier, title and rules. Where a statement quantifies over every state it holds in states that no run
reaches, too. "In units" means in units of 2^-149 (see Machine/Float.lean).
-/

open Sys2Proof Sys2Proof.Machine

/-! ### Reset -/

/-- Rule R40: every element after reset; the six datapath registers hold no value, that is, are marked
unwritten. -/
def Obligations.ResetLeavesRuleR40Values : Prop :=
  State.reset.seq = 0#4 ∧ State.reset.fsel = .f1k ∧ State.reset.en = 0#3 ∧
  State.reset.dutySh = ⟨0#16, 0#16, 0#16⟩ ∧ State.reset.dutyAct = ⟨0#16, 0#16, 0#16⟩ ∧
  State.reset.cnt = 0#16 ∧ (∀ ch, State.reset.pwmOut ch = false) ∧ State.reset.cmdReady = false ∧
  State.reset.cb.written = false ∧ State.reset.pct.written = false ∧ State.reset.rd.written = false ∧
  State.reset.df.written = false ∧ State.reset.dc.written = false ∧ State.reset.maxd.written = false

/-- Rule R191: `rst` in any state, whatever the step it falls before: the whole block as R40 says, the
outputs inactive at once, an offered byte still with the host. -/
def Obligations.RstResetsTheBlockAtOnce : Prop :=
  ∀ (s : State) (rest : List Turn), s.agenda = .move .rst :: rest →
    ∃ t, step s = .next t ∧ t.seq = 0#4 ∧ t.fsel = .f1k ∧ t.en = 0#3 ∧
      t.dutySh = ⟨0#16, 0#16, 0#16⟩ ∧ t.dutyAct = ⟨0#16, 0#16, 0#16⟩ ∧ t.cnt = 0#16 ∧
      t.cb.written = false ∧ t.pct.written = false ∧ t.rd.written = false ∧
      t.df.written = false ∧ t.dc.written = false ∧ t.maxd.written = false ∧
      (∀ ch, t.pwmOut ch = false) ∧ t.offer = s.offer

/-- Rules R10, R166, R171 (BadParameter), R182: power applied with parameters in range starts the block as
after reset with those parameters, a byte on offer still with the host (R39, R191); a parameter out of
range is refused. That the environment starts anew with the block, that the agenda and the draw counter
go on, and that MAXDUTY's value is given where both are out of range, is the model's (logs 13, 14). -/
def Obligations.PowerOnTakesParametersInRangeOnly : Prop :=
  ∀ (s : State) (rest : List Turn) (m k : Nat), s.agenda = .powerOn m k :: rest →
    (1 ≤ m → m ≤ 65535 → 1 ≤ k → k ≤ 65535 →
      ∃ t, step s = .next t ∧ t.maxDuty.ticks.toNat = m ∧ t.maxDuty1k.ticks.toNat = k ∧
        t = { State.reset with maxDuty := t.maxDuty, maxDuty1k := t.maxDuty1k, offer := s.offer,
                               agenda := rest, drawn := s.drawn }) ∧
    ((m = 0 ∨ 65535 < m) → step s = .refused (.badParameter m)) ∧
    (1 ≤ m → m ≤ 65535 → (k = 0 ∨ 65535 < k) → step s = .refused (.badParameter k))

/-! ### Encoding -/

/-- The worked encodings of rule R84 and the reserved ones beside them. -/
def Obligations.WorkedEncodingsDecode : Prop :=
  decode (.command 0x80#8) = .instr (.cmd 128#8) ∧
  decode (.transaction 0x80001#20) = .instr (.setfreq .f10k) ∧
  decode (.transaction 0x10000#20) = .instr .maxduty ∧
  decode (.transaction 0xA0004#20) = .instr .enable3 ∧
  decode (.transaction 0xE027C#20) = .instr (.setduty2 636#16) ∧
  decode (.transaction 0xF03C0#20) = .instr (.setduty3 960#16) ∧
  decode (.transaction 0xB0000#20) = .reservedTransaction 0xB0000#20 ∧
  decode (.transaction 0xA0003#20) = .reservedTransaction 0xA0003#20 ∧
  decode (.stepCode 0b1011#4) = .instr .sWr3

/-- Rules R71, R74, R76: no bit of any operand is dropped by the encoding, for every instruction. -/
def Obligations.DecodeOfEncodeIsTheInstruction : Prop := ∀ i : Instr, decode (encode i) = .instr i

/-- Rules R71, R74, R76, R85: a word that decodes is the encoding of what it decodes to, so each
instruction has one word in its format. -/
def Obligations.EveryDecodedWordIsTheEncoding : Prop :=
  ∀ (w : CodeWord) (i : Instr), decode w = .instr i → encode i = w

/-- Rule R79: exactly the listed words are reserved; each is refused; the microprogram issues none. -/
def Obligations.ReservedTransactionWordsAreTheListedOnes : Prop :=
  (∀ w : Tx, decode (.transaction w) = .reservedTransaction w ↔
    (Tx.addr w = 3#3 ∨ Tx.addr w = 4#3 ∨
      (Tx.write w = true ∧ Tx.addr w = 1#3) ∨
      (Tx.write w = false ∧ (Tx.addr w ≠ 1#3 ∨ Tx.data w ≠ 0#16)) ∨
      (Tx.write w = true ∧ Tx.addr w = 0#3 ∧ (Tx.data w).extractLsb' 1 15 ≠ 0#15) ∨
      (Tx.write w = true ∧ Tx.addr w = 2#3 ∧
        Tx.data w ≠ 1#16 ∧ Tx.data w ≠ 2#16 ∧ Tx.data w ≠ 4#16))) ∧
  (∀ (w : Tx) (s : State), Tx.reserved w = true →
    runWord (.transaction w) s = .refused (.reservedTransaction w)) ∧
  (∀ (s : State) (w : Tx), s.txWord = some w → Tx.reserved w = false)

/-- When the word at the place of travel decodes to `i`, the step is `exec i`, on the state with the turn
taken off the agenda and nothing else changed: the step code in `SEQ` on the sequencer's move, a
transaction word, a command byte. -/
def Obligations.StepRunsTheDecodedInstruction : Prop :=
  ∀ (s : State) (rest : List Turn) (i : Instr),
    (s.agenda = .move .sequencer :: rest → decode (.stepCode s.seq) = .instr i →
      step s = exec i { s with agenda := rest }) ∧
    (∀ w, s.agenda = .transaction w :: rest → decode (.transaction w) = .instr i →
      step s = exec i { s with agenda := rest }) ∧
    (∀ b, s.agenda = .command b :: rest → decode (.command b) = .instr i →
      step s = exec i { s with agenda := rest })

/-- Where the agenda is empty the step is the free move, the draw counted: every interleaving stays
possible (R60 item 4, the model's choice of log 4). -/
def Obligations.EmptyAgendaTakesTheFreeMove : Prop :=
  ∀ s : State, s.agenda = [] →
    step s = runMove (Config.freeMove s.drawn) { s with drawn := s.drawn + 1 }

/-! ### The mapper -/

/-- Rule R91: on finite operands whose result is finite, each operation gives a binary32 value nearest to
the exact result, and where two values are equally near, the one with the even last bit. -/
def Obligations.FloatOperationsRoundToNearestEven : Prop :=
  ∀ a b : F32, F32.isFinite a = true → F32.isFinite b = true →
    (F32.isFinite (fadd a b) = true → ∀ q : F32, F32.isFinite q = true →
      (F32.units (fadd a b) - (F32.units a + F32.units b)).natAbs ≤
          (F32.units q - (F32.units a + F32.units b)).natAbs ∧
        ((F32.units (fadd a b) - (F32.units a + F32.units b)).natAbs =
            (F32.units q - (F32.units a + F32.units b)).natAbs →
          F32.units q = F32.units (fadd a b) ∨ (fadd a b).getLsbD 0 = false)) ∧
    (F32.isFinite (fmul a b) = true → ∀ q : F32, F32.isFinite q = true →
      (F32.units (fmul a b) * 2 ^ 149 - F32.units a * F32.units b).natAbs ≤
          (F32.units q * 2 ^ 149 - F32.units a * F32.units b).natAbs ∧
        ((F32.units (fmul a b) * 2 ^ 149 - F32.units a * F32.units b).natAbs =
            (F32.units q * 2 ^ 149 - F32.units a * F32.units b).natAbs →
          F32.units q = F32.units (fmul a b) ∨ (fmul a b).getLsbD 0 = false)) ∧
    (F32.isZero b = false → F32.isFinite (fdiv a b) = true → ∀ q : F32, F32.isFinite q = true →
      (F32.units (fdiv a b) * F32.units b - F32.units a * 2 ^ 149).natAbs ≤
          (F32.units q * F32.units b - F32.units a * 2 ^ 149).natAbs ∧
        ((F32.units (fdiv a b) * F32.units b - F32.units a * 2 ^ 149).natAbs =
            (F32.units q * F32.units b - F32.units a * 2 ^ 149).natAbs →
          F32.units q = F32.units (fdiv a b) ∨ (fdiv a b).getLsbD 0 = false))

/-- Rules R13, R93: the byte is converted exactly; the two ends and the exact byte of the rule. -/
def Obligations.ByteToPercentageCornerCases : Prop :=
  (∀ b : Byte, F32.units (u8ToF32 b) = b.toNat * 2 ^ 149) ∧
  (∀ b : Byte, F32.sign (b2p b) = false ∧ F32.isFinite (b2p b) = true) ∧
  b2p 0#8 = 0x00000000#32 ∧ b2p 255#8 = 0x42C80000#32 ∧ b2p 51#8 = 0x41A00000#32 ∧
  fdiv (u8ToF32 128#8) k255 = 0x3F008081#32 ∧ b2p 128#8 = 0x4248C8CA#32 ∧
  p2r 0x4248C8CA#32 = 0x43169698#32 ∧ p2r 0x42C80000#32 = 0x43960000#32

/-- Rule R95, the example: the inside of QMAP at the default reading. -/
def Obligations.QmapOfTheDefaultReading : Prop :=
  fmul 0x43160000#32 0x43160000#32 = 0x46AFC800#32 ∧ fmul kA 0x46AFC800#32 = 0xC101999A#32 ∧
  fmul kB 0x43160000#32 = 0x429C8354#32 ∧ fadd 0xC101999A#32 0x429C8354#32 = 0x428C5021#32 ∧
  fadd 0x428C5021#32 kC = 0x42D44826#32 ∧ fmul 0x42D44826#32 k6 = 0x441F361C#32 ∧
  qmap 0x43160000#32 = 0x441F361C#32

/-- Rule R97: the corner cases of QMAP, for every NaN and whatever NaN an operation makes. -/
def Obligations.QmapCornerCases : Prop :=
  qmap 0x00000000#32 = 0x4357E80E#32 ∧ qmap 0x80000000#32 = 0x4357E80E#32 ∧
  qmap 0xC2C80000#32 = 0xC2ED7065#32 ∧ qmap 0x43960000#32 = 0x44702568#32 ∧
  qmap 0x44350000#32 = 0x44A8BFD2#32 ∧ qmap 0x44C80000#32 = 0xC398A395#32 ∧
  F32.isNaN (qmap 0x7F800000#32) = true ∧ qmap 0xFF800000#32 = 0xFF800000#32 ∧
  (∀ r : F32, F32.isNaN r = true → F32.isNaN (qmap r) = true) ∧
  (∀ r : F32, F32.isFinite r = true → fmul r r = 0x7F800000#32 → qmap r = 0xFF800000#32)

/-- Rule R98: NaN and the infinities; for a finite value, the integer part toward zero, clamped as a
mathematical integer; the result is never above the bound. -/
def Obligations.F2dTruncatesThenClamps : Prop :=
  ∀ (x : F32) (m : Half),
    (F32.isNaN x = true → f2d x m = 0#16) ∧
    f2d 0x7F800000#32 m = m ∧ f2d 0xFF800000#32 m = 0#16 ∧
    (F32.isFinite x = true → ∃ t : Int,
      (0 ≤ F32.units x → t * 2 ^ 149 ≤ F32.units x ∧ F32.units x < (t + 1) * 2 ^ 149) ∧
      (F32.units x < 0 → (t - 1) * 2 ^ 149 < F32.units x ∧ F32.units x ≤ t * 2 ^ 149) ∧
      ((f2d x m).toNat : Int) = min (max t 0) m.toNat) ∧
    f2d x m ≤ m

/-- Rule R103: for every byte and bound, the duty is the exact quadratic's floor, clamped. -/
def Obligations.DutyTableIsTheExactQuadratic : Prop :=
  ∀ (b : Byte) (m : Half),
    (mapB b m).toNat =
      min ((3119848347 + 53214420 * b.toNat - 43200 * b.toNat * b.toNat) / 14450000) m.toNat

/-- Rule R100: the reading lies in [0, 300], the unclamped duty in 215 to 960, and it is strictly
increasing in the byte. -/
def Obligations.UnclampedDutyIncreasesFrom215To960 : Prop :=
  (∀ b : Byte, 0 ≤ F32.units (p2r (b2p b)) ∧ F32.units (p2r (b2p b)) ≤ F32.units k300) ∧
  (∀ (b : Byte) (m : Half), 960#16 ≤ m → 215#16 ≤ mapB b m ∧ mapB b m ≤ 960#16) ∧
  (∀ (b c : Byte) (m : Half), 960#16 ≤ m → b < c → mapB b m < mapB c m)

/-- Rule R104: the default duty, which no byte reproduces. -/
def Obligations.DefaultDutyIs636Clamped : Prop :=
  (∀ m : Half, (mapD m).toNat = min 636 m.toNat) ∧
  (∀ (b : Byte) (m : Half), 960#16 ≤ m → mapB b m ≠ mapD m)

/-! ### The PWM channel controller -/

/-- Rule R111: the frequency, the period from then on, and nothing else. -/
def Obligations.SetfreqSelectsThePeriod : Prop :=
  ∀ (f : Freq) (s : State),
    exec (.setfreq f) s = .next { s with fsel := f } ∧
    (State.pwmPeriod { s with fsel := f } =
      match f with
      | .f10k => s.maxDuty.ticks
      | .f1k => s.maxDuty1k.ticks)

/-- Rule R112: the result is the period that `PWM_FSEL` selects (R29); no state changes but the bus, the
model's own `busRead` (log 10). -/
def Obligations.MaxdutyReturnsThePeriod : Prop :=
  ∀ s : State,
    (s.fsel = .f10k → exec .maxduty s = .next { s with busRead := s.maxDuty.ticks }) ∧
    (s.fsel = .f1k → exec .maxduty s = .next { s with busRead := s.maxDuty1k.ticks })

/-- Rule R113, for the three channels: one enable bit is set, the other two and all else unchanged. -/
def Obligations.EnableSetsItsBitAlone : Prop :=
  ∀ s : State,
    exec .enable1 s = .next { s with en := s.en ||| 0b001#3 } ∧
    exec .enable2 s = .next { s with en := s.en ||| 0b010#3 } ∧
    exec .enable3 s = .next { s with en := s.en ||| 0b100#3 } ∧
    (∀ ch, State.enabled ch { s with en := s.en ||| 0b001#3 } = (ch == .ch1 || s.enabled ch)) ∧
    (∀ ch, State.enabled ch { s with en := s.en ||| 0b010#3 } = (ch == .ch2 || s.enabled ch)) ∧
    (∀ ch, State.enabled ch { s with en := s.en ||| 0b100#3 } = (ch == .ch3 || s.enabled ch))

/-- Rule R114, for the three channels: in range, one shadow register and nothing else of the block (the
model notes in `dutyPending` that a duty was written, log 24); out of range, the fault of rule R115. -/
def Obligations.SetdutyWritesItsShadowOrFaults : Prop :=
  ∀ (v : Half) (s : State),
    (v ≤ s.pwmPeriod →
      exec (.setduty1 v) s =
        .next { s with dutySh := ⟨v, s.dutySh.ch2, s.dutySh.ch3⟩, dutyPending := true } ∧
      exec (.setduty2 v) s =
        .next { s with dutySh := ⟨s.dutySh.ch1, v, s.dutySh.ch3⟩, dutyPending := true } ∧
      exec (.setduty3 v) s =
        .next { s with dutySh := ⟨s.dutySh.ch1, s.dutySh.ch2, v⟩, dutyPending := true }) ∧
    (s.pwmPeriod < v →
      exec (.setduty1 v) s = .fault (.dutyOutOfRange .ch1 v s.pwmPeriod) ∧
      exec (.setduty2 v) s = .fault (.dutyOutOfRange .ch2 v s.pwmPeriod) ∧
      exec (.setduty3 v) s = .fault (.dutyOutOfRange .ch3 v s.pwmPeriod))

/-- Rule R51: a register of the space keeps its content under every transaction that does not write it:
what each write leaves at every other address (`PWM_PERIOD`, address 1, follows `PWM_FSEL`). -/
def Obligations.AWriteLeavesEveryOtherRegister : Prop :=
  ∀ (s t : State) (a : RegAddr),
    (∀ f, exec (.setfreq f) s = .next t → a ≠ 0#3 → a ≠ 1#3 → t.pwmReg a = s.pwmReg a) ∧
    (exec .maxduty s = .next t → t.pwmReg a = s.pwmReg a) ∧
    ((exec .enable1 s = .next t ∨ exec .enable2 s = .next t ∨ exec .enable3 s = .next t) →
      a ≠ 2#3 → t.pwmReg a = s.pwmReg a) ∧
    (∀ v, exec (.setduty1 v) s = .next t → a ≠ 5#3 → t.pwmReg a = s.pwmReg a) ∧
    (∀ v, exec (.setduty2 v) s = .next t → a ≠ 6#3 → t.pwmReg a = s.pwmReg a) ∧
    (∀ v, exec (.setduty3 v) s = .next t → a ≠ 7#3 → t.pwmReg a = s.pwmReg a)

/-- Rule R61: the read, whose result is in `busRead` (log 10), sees the most recent SETFREQ. -/
def Obligations.MaxdutySeesTheLastSetfreq : Prop :=
  ∀ (f : Freq) (s : State),
    thenDo (exec (.setfreq f) s) (exec .maxduty) =
      .next { s with fsel := f, busRead := match f with
                                           | .f10k => s.maxDuty.ticks
                                           | .f1k => s.maxDuty1k.ticks }

/-- Rule R66, for any channel, values and turns between the two writes in which no period boundary falls
(single transactions, sequencer steps, ticks within the period, offers, the command loop, `rst`, power
on): after the second write all is as if the first had never been; until then the active duties and the
outputs are those of the run without it; and the boundary after the second write makes its value active. -/
def Obligations.OverwrittenDutyNeverBecomesActive : Prop :=
  ∀ (ch : Channel) (v w : Half) (s : State) (us : List Turn), v ≤ s.pwmPeriod →
    ∃ s1, exec (Instr.setduty ch v) s = .next s1 ∧
      (NoBoundary us s1 →
        thenDo (runTurns us s1) (exec (Instr.setduty ch w)) =
          thenDo (runTurns us s) (exec (Instr.setduty ch w)) ∧
        (∀ t, runTurns us s1 = .next t → ∃ t0, runTurns us s = .next t0 ∧ t.dutyAct = t0.dutyAct ∧
          ∀ c, t.pwmOut c = t0.pwmOut c) ∧
        (∀ t, thenDo (runTurns us s1) (exec (Instr.setduty ch w)) = .next t →
          (pbound t).dutyAct.get ch = w))

/-- Rule R57: writing the value already held, and enabling an enabled channel, change nothing of the block
(the write is still performed, so the model notes in `dutyPending` that a duty was written, log 24). -/
def Obligations.WritesOfTheHeldValueChangeNothing : Prop :=
  ∀ s : State,
    exec (.setfreq s.fsel) s = .next s ∧
    (s.enabled .ch1 = true → exec .enable1 s = .next s) ∧
    (s.enabled .ch2 = true → exec .enable2 s = .next s) ∧
    (s.enabled .ch3 = true → exec .enable3 s = .next s) ∧
    (s.dutySh.ch1 ≤ s.pwmPeriod → exec (.setduty1 s.dutySh.ch1) s =
      .next { s with dutyPending := true }) ∧
    (s.dutySh.ch2 ≤ s.pwmPeriod → exec (.setduty2 s.dutySh.ch2) s =
      .next { s with dutyPending := true }) ∧
    (s.dutySh.ch3 ≤ s.pwmPeriod → exec (.setduty3 s.dutySh.ch3) s =
      .next { s with dutyPending := true })

/-! ### The timer and the outputs -/

/-- Rule R118: TICK counts, or is a period boundary where the count would reach the period, which the model
notes in `dutyPending` (log 24). -/
def Obligations.TickCountsOrIsAPeriodBoundary : Prop :=
  ∀ (s : State) (rest : List Turn), s.agenda = .move (.timer .tick) :: rest →
    (s.pwmPeriod.toNat ≤ s.cnt.toNat + 1 →
      step s = .next { s with cnt := 0#16, dutyAct := s.dutySh, dutyPending := false,
                              agenda := rest }) ∧
    (s.cnt.toNat + 1 < s.pwmPeriod.toNat →
      ∃ c : Half, c.toNat = s.cnt.toNat + 1 ∧ step s = .next { s with cnt := c, agenda := rest })

/-- Rule R119: PBOUND clears the count and loads the three channels in one event, nothing else of the block
(the model notes the boundary in `dutyPending`, log 24). -/
def Obligations.PboundLoadsAllThreeChannels : Prop :=
  ∀ (s : State) (rest : List Turn), s.agenda = .move (.timer .pbound) :: rest →
    step s = .next { s with cnt := 0#16,
                            dutyAct := ⟨s.dutySh.ch1, s.dutySh.ch2, s.dutySh.ch3⟩,
                            dutyPending := false, agenda := rest }

/-- Rules R117, R118, R125: over one period of ticks from count 0, an enabled channel is active exactly
while the count is below its active duty, whatever the shadows hold; a disabled one never; and the
period ends in a boundary that loads the shadows. -/
def Obligations.OnePeriodIsActiveForItsDuty : Prop :=
  ∀ (s : State), s.cnt = 0#16 →
    (∀ (k : Nat) (ch : Channel), k < s.pwmPeriod.toNat →
      (timerEvents (List.replicate k .tick) s).cnt.toNat = k ∧
      (timerEvents (List.replicate k .tick) s).dutyAct = s.dutyAct ∧
      ((timerEvents (List.replicate k .tick) s).pwmOut ch = true ↔
        s.enabled ch = true ∧ k < (s.dutyAct.get ch).toNat)) ∧
    timerEvents (List.replicate s.pwmPeriod.toNat .tick) s =
      { s with cnt := 0#16, dutyAct := s.dutySh, dutyPending := false }

/-! ### The sequencer's steps -/

/-- Rule R132. -/
def Obligations.StepSFreqSelectsTenKilohertz : Prop :=
  ∀ s : State, exec .sFreq s = .next { s with fsel := .f10k, seq := 1#4 }

/-- Rule R133: MAXD takes the result of the read, which is also on the bus (log 10); at 10 kHz it is
MAXDUTY. -/
def Obligations.StepSMaxqLatchesThePeriod : Prop :=
  ∀ s : State,
    exec .sMaxq s = .next { s with maxd := ⟨s.pwmPeriod, true⟩, busRead := s.pwmPeriod, seq := 2#4 } ∧
    (s.fsel = .f10k → s.pwmPeriod = s.maxDuty.ticks)

/-- Rule R134, for the three enables; the successor is that of the step's own code, whatever SEQ was (the
model's choice of log 18). -/
def Obligations.StepsSEnEnableTheirChannel : Prop :=
  ∀ s : State,
    exec .sEn1 s = .next { s with en := s.en ||| 0b001#3, seq := 3#4 } ∧
    exec .sEn2 s = .next { s with en := s.en ||| 0b010#3, seq := 4#4 } ∧
    exec .sEn3 s = .next { s with en := s.en ||| 0b100#3, seq := 5#4 }

/-- Rule R135: the default reading through the curve; the read of an unwritten MAXD is noted (R171, the
model's choice of log 2). -/
def Obligations.StepSDefComputesTheDefaultDuty : Prop :=
  ∀ s : State, ∃ d : Half, d.toNat = min 636 s.maxd.val.toNat ∧
    exec .sDef s = .next
      { s with rd := ⟨0x43160000#32, true⟩, df := ⟨0x441F361C#32, true⟩, dc := ⟨d, true⟩, seq := 6#4,
               unwrittenRead := if s.maxd.written || s.unwrittenRead.isSome then s.unwrittenRead
                 else some .maxd }

/-- Rules R136 and R140: the four duty writes of the microprogram, where `DC` is in range; the read of an
unwritten DC is noted (R171, the model's choice of log 2), and the write in `dutyPending` (log 24). -/
def Obligations.DutyStepsWriteTheShadowOfTheirChannel : Prop :=
  ∀ s : State, s.dc.val ≤ s.pwmPeriod →
    let u := if s.dc.written || s.unwrittenRead.isSome then s.unwrittenRead else some .dc
    exec .sPr2 s = .next { s with dutySh := ⟨s.dutySh.ch1, s.dc.val, s.dutySh.ch3⟩, seq := 7#4,
                                  dutyPending := true, unwrittenRead := u } ∧
    exec .sPr3 s = .next { s with dutySh := ⟨s.dutySh.ch1, s.dutySh.ch2, s.dc.val⟩, seq := 8#4,
                                  dutyPending := true, unwrittenRead := u } ∧
    exec .sWr2 s = .next { s with dutySh := ⟨s.dutySh.ch1, s.dc.val, s.dutySh.ch3⟩, seq := 11#4,
                                  dutyPending := true, unwrittenRead := u } ∧
    exec .sWr3 s = .next { s with dutySh := ⟨s.dutySh.ch1, s.dutySh.ch2, s.dc.val⟩, seq := 8#4,
                                  dutyPending := true, unwrittenRead := u }

/-- Rule R115, at the four duty writes of the microprogram: a `DC` above the period is the fault. -/
def Obligations.DutyStepsFaultOutOfRange : Prop :=
  ∀ s : State, s.pwmPeriod < s.dc.val →
    exec .sPr2 s = .fault (.dutyOutOfRange .ch2 s.dc.val s.pwmPeriod) ∧
    exec .sPr3 s = .fault (.dutyOutOfRange .ch3 s.dc.val s.pwmPeriod) ∧
    exec .sWr2 s = .fault (.dutyOutOfRange .ch2 s.dc.val s.pwmPeriod) ∧
    exec .sWr3 s = .fault (.dutyOutOfRange .ch3 s.dc.val s.pwmPeriod)

/-- Rule R137: a byte on offer goes into CB and on to S_MAP; with none, the step completes and stays. The
transfer ends the offer (R139, the model's choice of log 7). -/
def Obligations.StepSWaitTakesTheOfferedByte : Prop :=
  ∀ s : State,
    (∀ b, s.offer = some b →
      exec .sWait s = .next { s with cb := ⟨b, true⟩, offer := none, seq := 9#4 }) ∧
    (s.offer = none → exec .sWait s = .next { s with seq := 8#4 })

/-- Rule R138: the four datapath registers, `DC` being the exact quadratic's floor clamped to MAXD. -/
def Obligations.StepSMapComputesTheDuty : Prop :=
  ∀ s : State, ∃ d : Half,
    d.toNat = min ((3119848347 + 53214420 * s.cb.val.toNat -
      43200 * s.cb.val.toNat * s.cb.val.toNat) / 14450000) s.maxd.val.toNat ∧
    exec .sMap s = .next
      { s with pct := ⟨b2p s.cb.val, true⟩, rd := ⟨p2r (b2p s.cb.val), true⟩,
               df := ⟨qmap (p2r (b2p s.cb.val)), true⟩, dc := ⟨d, true⟩, seq := 10#4,
               unwrittenRead :=
                 if s.unwrittenRead.isSome then s.unwrittenRead
                 else if s.cb.written = false then some .cb
                 else if s.maxd.written = false then some .maxd else none }

/-- Rule R25: how SEQ advances, that no step produces 12 to 15, and that such a state is refused. -/
def Obligations.SeqAdvancesAsTheMicroprogramSays : Prop :=
  (∀ s t : State, seqStep s = .next t →
    (s.seq.toNat ≤ 7 → t.seq.toNat = s.seq.toNat + 1) ∧
    (s.seq = 8#4 → t.seq = if s.offer.isSome then 9#4 else 8#4) ∧
    (s.seq = 9#4 ∨ s.seq = 10#4 → t.seq.toNat = s.seq.toNat + 1) ∧
    (s.seq = 11#4 → t.seq = 8#4) ∧ t.seq.toNat ≤ 11) ∧
  (∀ (s : State) (rest : List Turn), 12 ≤ s.seq.toNat → s.agenda = .move .sequencer :: rest →
    step s = .refused (.reservedSeq s.seq))

/-- Rules R131 to R140: a step that issues a transaction does so by the word that `txWord` names, and does
nothing else but note the read of DC, latch MAXD in S_MAXQ, and go to its successor. -/
def Obligations.StepsIssueTheirTransactionWord : Prop :=
  ∀ (s : State) (w : Tx), s.txWord = some w →
    ∃ c : StepCode,
      seqStep s =
        thenDo (issue w (if 6 ≤ s.seq.toNat then s.noteRead .dc s.dc.written else s)) fun t =>
          .next ((if s.seq = 1#4 then t.writeMaxd t.busRead else t).setSeq c)

/-! ### The composite operations -/

/-- Rule R142: CMD b from a waiting block whose clamp bound is in range, whatever timer events fall
inside (the model's composite of log 6; the offer ends with the transfer, log 7). Completion and result
of CMD. -/
def Obligations.CmdWritesBothChannels : Prop :=
  ∀ (b : Byte) (s : State), s.waiting = true → s.maxd.val ≤ s.pwmPeriod →
    ∃ (t : State) (d : Half),
      exec (.cmd b) s = .next t ∧
      d.toNat = min ((3119848347 + 53214420 * b.toNat - 43200 * b.toNat * b.toNat) / 14450000)
        s.maxd.val.toNat ∧
      t.seq = 8#4 ∧ t.cb = ⟨b, true⟩ ∧ t.pct = ⟨b2p b, true⟩ ∧ t.rd = ⟨p2r (b2p b), true⟩ ∧
      t.df = ⟨qmap (p2r (b2p b)), true⟩ ∧ t.dc = ⟨d, true⟩ ∧
      t.dutySh = ⟨s.dutySh.ch1, d, d⟩ ∧
      (t.dutyAct = s.dutyAct ∨ t.dutyAct = s.dutySh ∨ t.dutyAct = ⟨s.dutySh.ch1, d, s.dutySh.ch3⟩) ∧
      t.fsel = s.fsel ∧ t.en = s.en ∧ t.maxd = s.maxd ∧ t.busRead = s.busRead ∧ t.offer = none ∧
      t.maxDuty = s.maxDuty ∧ t.maxDuty1k = s.maxDuty1k ∧ t.env = s.env ∧ t.agenda = s.agenda ∧
      (s.maxd.written = true → t.unwrittenRead = s.unwrittenRead)

/-- Rule R141: INIT from SEQ = 0 with the duty registers at their reset values, whatever timer events fall
inside (the model's composite of log 6). -/
def Obligations.InitLeavesThePrimedBlock : Prop :=
  ∀ s : State, s.seq = 0#4 → s.dutySh = ⟨0#16, 0#16, 0#16⟩ → s.dutyAct = ⟨0#16, 0#16, 0#16⟩ →
    ∃ (t : State) (d : Half),
      initRun s = .next t ∧ d.toNat = min 636 s.maxDuty.ticks.toNat ∧
      t.seq = 8#4 ∧ t.fsel = .f10k ∧ t.maxd = ⟨s.maxDuty.ticks, true⟩ ∧ t.en = 0b111#3 ∧
      t.dutySh = ⟨0#16, d, d⟩ ∧ t.dc = ⟨d, true⟩ ∧ t.rd = ⟨0x43160000#32, true⟩ ∧
      t.df = ⟨0x441F361C#32, true⟩ ∧ t.cb = s.cb ∧ t.pct = s.pct ∧
      (t.dutyAct = ⟨0#16, 0#16, 0#16⟩ ∨ t.dutyAct = ⟨0#16, d, 0#16⟩ ∨ t.dutyAct = ⟨0#16, d, d⟩) ∧
      (pbound t).dutyAct = ⟨0#16, d, d⟩ ∧ t.offer = s.offer ∧ t.unwrittenRead = s.unwrittenRead

/-- Rules R141, R142: the transaction traces of INIT and of CMD b. -/
def Obligations.InitAndCmdTransactionTraces : Prop :=
  (∀ s : State, s.seq = 0#4 → ∃ d : Half, d.toNat = min 636 s.maxDuty.ticks.toNat ∧
    seqTrace 8 s =
      [0x80001#20, 0x10000#20, 0xA0001#20, 0xA0002#20, 0xA0004#20, 0xE#4 ++ d, 0xF#4 ++ d]) ∧
  (∀ (b : Byte) (s : State), s.seq = 8#4 → s.offer = some b → s.maxd.val ≤ s.pwmPeriod →
    ∃ d : Half,
      d.toNat = min ((3119848347 + 53214420 * b.toNat - 43200 * b.toNat * b.toNat) / 14450000)
        s.maxd.val.toNat ∧
      seqTrace 4 s = [0xE#4 ++ d, 0xF#4 ++ d])

/-! ### The whole machine -/

/-- The invariant of rule R42 holds at reset. -/
def Obligations.BlockInvariantHoldsAtReset : Prop := BlockInv State.reset

/-- Rules R42, R171, R184: from every state with the invariant, the step answers a next state, no fault and
no refusal, and the invariant holds there. Runs of the block hold no transaction turn (R123, log 15). -/
def Obligations.EveryStepCompletesAndKeepsTheBlockInvariant : Prop :=
  ∀ s : State, BlockInv s → ∃ t, step s = .next t ∧ BlockInv t

/-- Rules R42 items 1 to 5, R147: on every run of the block, with any parameters and any interleaving of its
agents, no step stops; channel 1 has duty 0; MAXD and DC are in range once written; the duties are in
range; whenever SEQ = S_WAIT the two driven channels hold DC, all channels are enabled and the frequency
is 10 kHz; and the two differ only at S_PR3 and S_WR3. -/
def Obligations.ChannelSynchronyOnEveryRun : Prop :=
  ∀ (turns : List Turn) (m k : Period) (n : Nat),
    (∀ u ∈ turns, Turn.ofBlock u = true) →
    ∃ t, Host.Core.run Sys2Proof.core n
        { State.reset with agenda := turns, maxDuty := m, maxDuty1k := k } = .next t ∧
      t.dutySh.ch1 = 0#16 ∧ t.dutyAct.ch1 = 0#16 ∧
      (t.maxd.written = true → t.maxd.val = t.maxDuty.ticks) ∧
      (t.dc.written = true → t.maxd.written = true ∧ t.dc.val ≤ t.maxd.val) ∧
      (∀ ch, t.dutySh.get ch ≤ t.maxDuty.ticks ∧ t.dutyAct.get ch ≤ t.maxDuty.ticks) ∧
      (t.dutySh.ch2 ≠ t.dutySh.ch3 → t.seq = 7#4 ∨ t.seq = 11#4) ∧
      t.unwrittenRead = none ∧
      (t.seq = 8#4 → t.fsel = .f10k ∧ t.en = 0b111#3 ∧ t.dutySh.ch2 = t.dutySh.ch3 ∧
        t.dutySh.ch2 = t.dc.val ∧ t.maxd.val = t.maxDuty.ticks)

/-- Rule R120: no operation reads CNT or DUTY_ACT: from two states that differ only there (and in the model's
record of the last boundary, log 24), every instruction ends alike and leaves states that differ only
there. -/
def Obligations.NoInstructionSeesTheTimer : Prop :=
  ∀ (i : Instr) (s t : State), SameButTimer s t → SameOutcomeButTimer (exec i s) (exec i t)

/-- Rules R30, R32, R113, R119, R123, R166: what no instruction does. None clears an enable bit; only
SETDUTY 1 changes the shadow of channel 1; none changes the parameters, the environment or the agenda;
and but for CMD, inside which timer events fall, none changes DUTY_ACT or CNT. -/
def Obligations.WhatNoInstructionChanges : Prop :=
  ∀ (i : Instr) (s t : State), exec i s = .next t →
    s.en &&& t.en = s.en ∧
    ((∀ v, i ≠ .setduty1 v) → t.dutySh.ch1 = s.dutySh.ch1) ∧
    t.maxDuty = s.maxDuty ∧ t.maxDuty1k = s.maxDuty1k ∧ t.env = s.env ∧ t.agenda = s.agenda ∧
    ((∀ b, i ≠ .cmd b) → t.dutyAct = s.dutyAct ∧ t.cnt = s.cnt ∧ t.drawn = s.drawn)

/-- Rules R133, R199: but for S_MAXQ itself, and CMD where it has INIT to finish, no instruction writes
MAXD. -/
def Obligations.OnlySMaxqWritesMaxd : Prop :=
  ∀ (i : Instr) (s t : State), exec i s = .next t → i ≠ .sMaxq →
    ((∃ b, i = .cmd b) → 2 ≤ s.seq.toNat) → t.maxd = s.maxd

/-- Rule R204: with no byte on offer, a state with the invariant is quiescent after three steps of the
sequencer in the main loop, after eight from anywhere, and settled after one further PBOUND, in the form
of R204 and in that of R16 (log 24). -/
def Obligations.QuiescentInThreeOrEightStepsThenSettled : Prop :=
  ∀ s : State, BlockInv s → s.offer = none →
    (8 ≤ s.seq.toNat → ∃ t, sequencerRun 3 s = .next t ∧ t.quiescent = true ∧
      (pbound t).settled = true ∧ (pbound t).settledByBoundary = true) ∧
    (∃ t, sequencerRun 8 s = .next t ∧ t.quiescent = true ∧ (pbound t).settled = true ∧
      (pbound t).settledByBoundary = true)

/-- Rules R16, R204, Settled: right after a duty write no state is settled by R16, be the value the one
held; a PBOUND in a quiescent state settles it; and on a run of the block R16's form gives R204's. -/
def Obligations.SettledNeedsABoundaryAfterTheLastDutyWrite : Prop :=
  (∀ (ch : Channel) (v : Half) (s t : State), exec (Instr.setduty ch v) s = .next t →
    t.settledByBoundary = false) ∧
  (∀ (c : StepCode) (i : Instr) (s t : State), decode (.stepCode c) = .instr i →
    c ∈ [6#4, 7#4, 10#4, 11#4] → exec i s = .next t → t.settledByBoundary = false) ∧
  (∀ s : State, (pbound s).settledByBoundary = s.quiescent ∧ (pbound s).settled = s.quiescent) ∧
  (∀ s : State, BlockInv s → s.settledByBoundary = true → s.settled = true)

/-- Rule R171: an UnwrittenRegister on record (the model's form of that fault, log 2) makes no state
quiescent or settled, and no move of an agent and no instruction clears or changes it. -/
def Obligations.UnwrittenReadIsNeverClearedAndNeverQuiescent : Prop :=
  ∀ (x : DataReg) (s : State), s.unwrittenRead = some x →
    s.quiescent = false ∧ s.settled = false ∧ s.settledByBoundary = false ∧
    (∀ m t, runMove m s = .next t → t.unwrittenRead = some x) ∧
    (∀ i t, exec i s = .next t → t.unwrittenRead = some x)

/-- Rules R203, R204: on every fair endless run of the block by moves of its agents, on which from some
point on the host offers no byte and asserts no `rst`, there is a point from which on every state is
settled, by R204 and by R16. -/
def Obligations.FairRunsSettleWhenNothingIsOffered : Prop :=
  ∀ r : Nat → State, BlockRun r → Fair r → BlockInv (r 0) →
    (∃ n, ∀ k, n ≤ k → (r k).offer = none ∧ (r k).nextTurn ≠ .move .rst) →
    ∃ n, ∀ k, n ≤ k → (r k).settled = true ∧ (r k).settledByBoundary = true

/-- Rules R139, R200, R203: on every fair endless run of the block, a byte on offer at any point after which
the host asserts no `rst` is taken into CB by a later step at S_WAIT, unchanged until then. -/
def Obligations.FairRunsTakeEveryOfferedByte : Prop :=
  ∀ r : Nat → State, BlockRun r → Fair r → BlockInv (r 0) →
    ∀ (n : Nat) (b : Byte), (r n).offer = some b → (∀ k, n ≤ k → (r k).nextTurn ≠ .move .rst) →
      ∃ k, n ≤ k ∧ (∀ j, n ≤ j → j ≤ k → (r j).offer = some b) ∧ (r k).seq = 8#4 ∧
        (r (k + 1)).offer = none ∧ (r (k + 1)).cb = ⟨b, true⟩ ∧ (r (k + 1)).seq = 9#4

/-- Rule R196: a boundary between the two writes of a pair, a command's or INIT's, makes channel 2 new and
channel 3 old for one period; the next one makes them equal. -/
def Obligations.BoundaryInsideThePairSplitsTheChannels : Prop :=
  ∀ s : State, s.seq = 10#4 ∨ s.seq = 6#4 → s.dc.val ≤ s.pwmPeriod →
    ∃ u v, seqStep s = .next u ∧ (pbound u).dutyAct.ch2 = s.dc.val ∧
      (pbound u).dutyAct.ch3 = s.dutySh.ch3 ∧
      seqStep (pbound u) = .next v ∧ v.dutyAct = (pbound u).dutyAct ∧ v.seq = 8#4 ∧
      (pbound v).dutyAct.ch2 = s.dc.val ∧ (pbound v).dutyAct.ch3 = s.dc.val

/-- Rules R36, R139, R166, R200: a byte on offer stays on offer, steady, through every move of every agent,
until an S_WAIT step takes it into CB; only then is the offer over. -/
def Obligations.AnOfferedByteIsTakenOnceAndNeverDropped : Prop :=
  ∀ (m : Move) (s t : State) (b : Byte), runMove m s = .next t → s.offer = some b →
    t.offer = some b ∧ t.cb = (if m = .rst then Latch.unwritten 8 else s.cb) ∨
    (m = .sequencer ∧ s.seq = 8#4 ∧ t.offer = none ∧ t.cb = ⟨b, true⟩ ∧ t.seq = 9#4)

/-! ### The environment's command loop -/

/-- Rules R153, R154: the loop starts with nothing received and nothing sent. -/
def Obligations.EchoInvariantHoldsAtReset : Prop := EchoInv State.reset.env

/-- Rules R153, R158: every step of the machine keeps it: what has been sent is the first `off` bytes of
the buffer, in order, each once, and the buffer never exceeds its capacity. -/
def Obligations.EveryStepKeepsTheEchoInvariant : Prop :=
  ∀ s t : State, EchoInv s.env → step s = .next t → EchoInv t.env

/-- Rules R158, R159: a write of `n` bytes sends exactly the next `n` of the buffer, or those that are left,
and the echo ends when none is left and only then; a write of zero bytes, an error or no answer changes
nothing at all, as often as it happens. -/
def Obligations.EchoEndsWithTheWholeBufferSent : Prop :=
  ∀ (s : State) (i : LoopInput), s.env.phase = .echo → EchoInv s.env →
    (∀ n, (s.loopTurn (.wrote n)).env.off = s.env.off + min n (s.env.buf.length - s.env.off) ∧
      (s.loopTurn (.wrote n)).env.echoed = s.env.echoed ++ (s.env.buf.drop s.env.off).take n ∧
      (s.loopTurn (.wrote n)).env.buf = s.env.buf ∧
      ((s.loopTurn (.wrote n)).env.phase = .idle ↔
        (s.loopTurn (.wrote n)).env.off = s.env.buf.length)) ∧
    ((s.loopTurn i).env.phase ≠ .echo →
      (s.loopTurn i).env.phase = .idle ∧ (s.loopTurn i).env.echoed = s.env.buf) ∧
    (∀ k, ((fun t => State.loopTurn (.wrote 0) t)^[k]) s = s) ∧
    s.loopTurn .writeError = s ∧ s.loopTurn .nothing = s

/-- Rules R156, R157: of a receive event, byte 0 reaches the command port and it alone, and nothing is
offered where there was no event. That the loop does so at any SEQ, before the first S_WAIT too, is the
model's choice (log 25). -/
def Obligations.OnlyByteZeroIsOffered : Prop :=
  ∀ (s : State) (i : LoopInput),
    (∀ b rest, s.env.phase = .waitForData → i = .received b rest →
      (s.loopTurn i).env.toOffer = some b ∧ (s.loopTurn i).env.phase = .consume ∧
        (s.loopTurn i).env.buf = (b :: rest).take 64) ∧
    (∀ b, s.env.phase = .consume → s.env.toOffer = some b → s.offer = none →
      (s.loopTurn i).offer = some b ∧ (s.loopTurn i).env.toOffer = none) ∧
    ((s.loopTurn i).offer ≠ s.offer →
      s.env.phase = .consume ∧ s.offer = none ∧ (s.loopTurn i).offer = s.env.toOffer ∧
        (s.loopTurn i).env.toOffer = none) ∧
    ((s.loopTurn i).env.toOffer ≠ s.env.toOffer → (s.loopTurn i).env.toOffer ≠ none →
      s.env.phase = .waitForData ∧ ∃ b rest, i = .received b rest ∧
        (s.loopTurn i).env.toOffer = some b ∧ (s.loopTurn i).env.buf = (b :: rest).take 64)

/-- Rules R156, R157, R160: the indicator goes active when the byte has been transferred and the block is
back at S_WAIT, as the echo starts, and goes idle as the loop returns to WaitForData; it changes at no
other turn; and every step of the machine keeps it active throughout the echo. -/
def Obligations.IndicatorIsActiveFromTheWritesToTheEndOfTheEcho : Prop :=
  (∀ (s : State) (i : LoopInput),
    (s.env.phase = .consume → s.env.toOffer = none → s.offer = none → s.seq = 8#4 →
      (s.loopTurn i).env.led = .active ∧ (s.loopTurn i).env.phase = .echo) ∧
    (s.env.phase = .idle →
      (s.loopTurn i).env.led = .idle ∧ (s.loopTurn i).env.phase = .waitForData) ∧
    ((s.loopTurn i).env.led ≠ s.env.led →
      (s.env.phase = .consume ∧ s.env.toOffer = none ∧ s.offer = none ∧ s.seq = 8#4) ∨
      s.env.phase = .idle)) ∧
  (∀ s t : State, (s.env.phase = .echo → s.env.led = .active) → step s = .next t →
    t.env.phase = .echo → t.env.led = .active)
end

