-- ==== Sys2Proof/Laws/Encoding.lean ====
section
/-!
SUPPORT. The transaction word and its three fields (rule R73), and the decoder of rule R74 read by
fields.
-/
namespace Sys2Proof

/-- The three fields as one number (rule R73). -/
theorem Tx.mk_toNat (b : Bool) (a : RegAddr) (d : Half) :
    (Tx.mk b a d).toNat = b.toNat * 524288 + a.toNat * 65536 + d.toNat := by
  change (BitVec.ofBool b ++ a ++ d : BitVec (1 + 3 + 16)).toNat = _
  have ha := a.isLt
  have hd := d.isLt
  rw [BitVec.toNat_append, BitVec.toNat_append, ← Nat.shiftLeft_add_eq_or_of_lt hd,
    ← Nat.shiftLeft_add_eq_or_of_lt ha]
  simp only [Nat.shiftLeft_eq]
  cases b <;> simp
  all_goals omega

theorem Tx.addr_toNat (w : Tx) : (Tx.addr w).toNat = w.toNat / 65536 % 8 := by
  simp [Tx.addr, BitVec.extractLsb'_toNat, Nat.shiftRight_eq_div_pow]

theorem Tx.data_toNat (w : Tx) : (Tx.data w).toNat = w.toNat % 65536 := by
  simp [Tx.data, BitVec.extractLsb'_toNat]

theorem Tx.write_eq (w : Tx) : Tx.write w = decide (524288 ≤ w.toNat) := by
  have := w.isLt
  simp only [Tx.write, BitVec.getLsbD, Nat.testBit_eq_decide_div_mod_eq]
  congr 1; simp; omega

@[simp] theorem Tx.write_mk (b : Bool) (a : RegAddr) (d : Half) : Tx.write (Tx.mk b a d) = b := by
  have ha := a.isLt
  have hd := d.isLt
  rw [Tx.write_eq, Tx.mk_toNat]
  cases b <;> simp <;> omega

@[simp] theorem Tx.addr_mk (b : Bool) (a : RegAddr) (d : Half) : Tx.addr (Tx.mk b a d) = a := by
  have ha := a.isLt
  have hd := d.isLt
  apply BitVec.eq_of_toNat_eq
  rw [Tx.addr_toNat, Tx.mk_toNat]
  cases b <;> simp <;> omega

@[simp] theorem Tx.data_mk (b : Bool) (a : RegAddr) (d : Half) : Tx.data (Tx.mk b a d) = d := by
  have ha := a.isLt
  have hd := d.isLt
  apply BitVec.eq_of_toNat_eq
  rw [Tx.data_toNat, Tx.mk_toNat]
  cases b <;> simp <;> omega

/-- A transaction word is its three fields. -/
theorem Tx.mk_fields (w : Tx) : Tx.mk (Tx.write w) (Tx.addr w) (Tx.data w) = w := by
  have := w.isLt
  apply BitVec.eq_of_toNat_eq
  rw [Tx.mk_toNat, Tx.addr_toNat, Tx.data_toNat, Tx.write_eq]
  by_cases h : 524288 ≤ w.toNat <;> simp [h] <;> omega

/-- A mask acts field by field. -/
theorem Tx.and_mk (b c : Bool) (a e : RegAddr) (d f : Half) :
    Tx.mk b a d &&& Tx.mk c e f = Tx.mk (b && c) (a &&& e) (d &&& f) := by
  change (BitVec.ofBool b ++ a ++ d : BitVec (1 + 3 + 16)) &&&
    (BitVec.ofBool c ++ e ++ f : BitVec (1 + 3 + 16)) = _
  rw [BitVec.and_append, BitVec.and_append]
  simp [Tx.mk]

theorem Tx.mk_inj (b c : Bool) (a e : RegAddr) (d f : Half) :
    Tx.mk b a d = Tx.mk c e f ↔ b = c ∧ a = e ∧ d = f := by
  constructor
  · intro h
    exact ⟨by rw [← Tx.write_mk b a d, h, Tx.write_mk], by rw [← Tx.addr_mk b a d, h, Tx.addr_mk],
      by rw [← Tx.data_mk b a d, h, Tx.data_mk]⟩
  · rintro ⟨rfl, rfl, rfl⟩; rfl

/-- Rule R74 with its masks and matches read as field values: the W, ADDR and DATA columns of the table. -/
theorem decodeTransaction_mk (b : Bool) (a : RegAddr) (d : Half) :
    decodeTransaction (Tx.mk b a d) =
      if b = true ∧ a = 0#3 ∧ d &&& 0xFFFE#16 = 0#16 then
        .instr (.setfreq (Freq.ofBit (d.getLsbD 0)))
      else if b = false ∧ a = 1#3 ∧ d = 0#16 then .instr .maxduty
      else if b = true ∧ a = 2#3 ∧ d = 1#16 then .instr .enable1
      else if b = true ∧ a = 2#3 ∧ d = 2#16 then .instr .enable2
      else if b = true ∧ a = 2#3 ∧ d = 4#16 then .instr .enable3
      else if b = true ∧ a = 5#3 then .instr (.setduty1 d)
      else if b = true ∧ a = 6#3 then .instr (.setduty2 d)
      else if b = true ∧ a = 7#3 then .instr (.setduty3 d)
      else .reservedTransaction (Tx.mk b a d) := by
  have e1 : (0xFFFFE#20 : Tx) = Tx.mk true 7#3 0xFFFE#16 := by decide
  have e2 : (0xFFFFF#20 : Tx) = Tx.mk true 7#3 0xFFFF#16 := by decide
  have e3 : (0xF0000#20 : Tx) = Tx.mk true 7#3 0#16 := by decide
  have p1 : (0x80000#20 : Tx) = Tx.mk true 0#3 0#16 := by decide
  have p2 : (0x10000#20 : Tx) = Tx.mk false 1#3 0#16 := by decide
  have p3 : (0xA0001#20 : Tx) = Tx.mk true 2#3 1#16 := by decide
  have p4 : (0xA0002#20 : Tx) = Tx.mk true 2#3 2#16 := by decide
  have p5 : (0xA0004#20 : Tx) = Tx.mk true 2#3 4#16 := by decide
  have p6 : (0xD0000#20 : Tx) = Tx.mk true 5#3 0#16 := by decide
  have p7 : (0xE0000#20 : Tx) = Tx.mk true 6#3 0#16 := by decide
  have h7 : a &&& 7#3 = a := BitVec.and_allOnes
  have hf : d &&& 65535#16 = d := BitVec.and_allOnes
  have hb : (Tx.mk b a d).getLsbD 0 = d.getLsbD 0 := by
    rw [BitVec.getLsbD, BitVec.getLsbD, Tx.mk_toNat]; simp [Nat.testBit_zero]; omega
  simp only [decodeTransaction, hb, e1, e2, p1, p2, p3, p4, p5, p6, p7, e3, Tx.and_mk, Tx.mk_inj,
    Bool.and_true, h7, hf, Tx.data_mk, BitVec.and_zero, and_true]

/-- A data field with no bit above bit 0 is that of the frequency its bit 0 names (rule R74). -/
theorem Freq.data_ofBit (d : Half) (h : d &&& 0xFFFE#16 = 0#16) :
    (Freq.ofBit (d.getLsbD 0)).data = d := by
  have hh : d = if d.getLsbD 0 then 1#16 else 0#16 := by
    apply BitVec.eq_of_getLsbD_eq
    intro i hi
    have := congrArg (fun x => BitVec.getLsbD x i) h
    simp only [BitVec.getLsbD_and, BitVec.getLsbD_zero] at this
    rcases i with _ | i; rotate_left; have hi2 : i < 15 := by omega
    rotate_right
    · cases h0 : d.getLsbD 0 <;> simp
    · have h2 : (65534#16).getLsbD (i+1) = true := by
        clear this h hi; interval_cases i <;> rfl
      rw [h2, Bool.and_true] at this
      rw [this]
      split <;> (clear * - hi2; interval_cases i <;> rfl)
  rw [hh]
  cases h0 : d.getLsbD 0 <;> rfl

/-- A write to one of the three duty registers is never a reserved word (rules R74, R79). -/
theorem Tx.wf_duty (a : RegAddr) (d : Half) (h : a = 5#3 ∨ a = 6#3 ∨ a = 7#3) :
    (CodeWord.transaction (Tx.mk true a d)).wf = true := by
  rcases h with rfl | rfl | rfl <;> simp [CodeWord.wf, Tx.reserved]

end Sys2Proof
end

