-- ==== Sys2Proof/Laws/Float.lean ====
section
/-!
SUPPORT. The operations of Machine/Float.lean without their order of evaluation, and the classes of a
binary32 pattern, and what rounding does (rule R91).
-/
namespace Sys2Proof

@[simp] theorem evalFirst_eq {α : Type} (n : Nat) (k : Nat → α) : evalFirst n k = k n := by
  cases n <;> rfl

@[simp] theorem F32.byValue_eq (op : F32 → F32 → F32) (a b : F32) : F32.byValue op a b = op a b := by
  simp [F32.byValue]

theorem fadd_eq (a b : F32) : fadd a b = F32.add a b := F32.byValue_eq _ a b

theorem fmul_eq (a b : F32) : fmul a b = F32.mul a b := F32.byValue_eq _ a b

theorem fdiv_eq (a b : F32) : fdiv a b = F32.div a b := F32.byValue_eq _ a b

theorem u8ToF32_eq (b : Byte) : u8ToF32 b = F32.pack false (F32.roundMagnitude (b.toNat * 2 ^ 149) 1) := by
  simp [u8ToF32]

theorem f2d_eq (x : F32) (m : Half) : f2d x m = F32.toDuty x m := by
  simp [f2d]

@[simp] theorem curveInput_eq (r : F32) : curveInput r = r := rfl

theorem mapB_eq (b : Byte) (m : Half) : mapB b m = f2d (qmap (p2r (b2p b))) m := by
  rw [mapB, curveInput_eq]

theorem mapD_eq (m : Half) : mapD m = f2d (qmap kRdef) m := by
  rw [mapD, curveInput_eq]

/-- Every pattern is a NaN, an infinity or finite, and only one of them (rule R91). -/
theorem F32.class_cases (x : F32) :
    (F32.isNaN x = true ∧ F32.isInf x = false ∧ F32.isFinite x = false) ∨
      (F32.isNaN x = false ∧ F32.isInf x = true ∧ F32.isFinite x = false) ∨
      (F32.isNaN x = false ∧ F32.isInf x = false ∧ F32.isFinite x = true) := by
  rcases Nat.lt_trichotomy (F32.magnitude x) F32.infMagnitude with h | h | h
  · exact .inr (.inr (by simp [F32.isNaN, F32.isInf, F32.isFinite]; omega))
  · exact .inr (.inl (by simp [F32.isNaN, F32.isInf, F32.isFinite]; omega))
  · exact .inl (by simp [F32.isNaN, F32.isInf, F32.isFinite]; omega)

/-- A pattern that an operation makes as its NaN is a NaN, whatever the free bits are (U8). -/
theorem F32.isNaN_nan (op : FloatOp) (a b : F32) : F32.isNaN (F32.nan op a b) = true := by
  have mag_or (x : F32) : F32.infMagnitude ≤ F32.magnitude (x ||| 0x7F800000#32) := by
    have h : F32.magnitude (x ||| 0x7F800000#32) = F32.magnitude x ||| 0x7F800000 := by
      simp only [F32.magnitude, BitVec.toNat_or, Nat.or_mod_two_pow]; rfl
    rw [h]
    exact Nat.right_le_or
  unfold F32.nan
  generalize Config.freeNaN op a b = p
  have hp := mag_or p
  generalize hq : p ||| 0x7F800000#32 = q at hp ⊢
  by_cases h : F32.magnitude q = F32.infMagnitude
  · have h1 : F32.magnitude (q ||| 1#32) = F32.infMagnitude ||| 1 := by
      rw [← h]
      simp only [F32.magnitude, BitVec.toNat_or, Nat.or_mod_two_pow]; rfl
    simp only [h, if_true, F32.isNaN, h1]
    decide
  · simp only [h, if_false, F32.isNaN, decide_eq_true_eq]
    omega

/-! ### Rounding -/

/-- The units of a magnitude given as an exponent step and a significand. -/
theorem F32.magnitudeUnits_encoded (k m : Nat) (hm : m ≤ 2 ^ 24) (hk : k = 0 ∨ 2 ^ 23 ≤ m) :
    F32.magnitudeUnits (k * 2 ^ 23 + m) = m * 2 ^ k := by
  unfold F32.magnitudeUnits
  rcases Nat.lt_or_ge m (2 ^ 23) with h | h
  · obtain rfl : k = 0 := by omega
    rw [if_pos (by omega)]; simp
  · rcases Nat.lt_or_ge m (2 ^ 24) with h2 | h2
    · have hd : (k * 2 ^ 23 + m) / 2 ^ 23 = k + 1 := by omega
      have hr : (k * 2 ^ 23 + m) % 2 ^ 23 = m - 2 ^ 23 := by omega
      rw [hd, hr, if_neg (by omega), Nat.sub_add_cancel h, Nat.add_sub_cancel]
    · obtain rfl : m = 2 ^ 24 := by omega
      have hd : (k * 2 ^ 23 + 2 ^ 24) / 2 ^ 23 = k + 2 := by omega
      have hr : (k * 2 ^ 23 + 2 ^ 24) % 2 ^ 23 = 0 := by omega
      rw [hd, hr, if_neg (by omega), show k + 2 - 1 = k + 1 by omega, Nat.pow_succ]
      ring

theorem F32.magnitudeUnits_lt_succ (p : Nat) : F32.magnitudeUnits p < F32.magnitudeUnits (p + 1) := by
  obtain ⟨k, m, hk, hm, rfl⟩ : ∃ k m, (k = 0 ∨ 2 ^ 23 ≤ m) ∧ m < 2 ^ 24 ∧ p = k * 2 ^ 23 + m := by
    rcases Nat.lt_or_ge p (2 ^ 23) with h | h
    · exact ⟨0, p, .inl rfl, by omega, by omega⟩
    · exact ⟨p / 2 ^ 23 - 1, p % 2 ^ 23 + 2 ^ 23, .inr (by omega), by omega, by omega⟩
  rw [Nat.add_assoc, F32.magnitudeUnits_encoded k m (by omega) hk,
    F32.magnitudeUnits_encoded k (m + 1) (by omega) (by omega)]
  exact Nat.mul_lt_mul_of_pos_right (Nat.lt_succ_self m) (Nat.two_pow_pos k)

/-- A larger magnitude is a larger value (rule R91). -/
theorem F32.magnitudeUnits_strictMono : StrictMono F32.magnitudeUnits :=
  strictMono_nat_of_lt_succ F32.magnitudeUnits_lt_succ

/-- The two magnitudes around `n / d`, with no other between them, and which of them is taken. -/
theorem F32.roundMagnitude_cases (n d : Nat) (hd : 0 < d) :
    ∃ k m r, n = m * 2 ^ k * d + r ∧ r < d * 2 ^ k ∧
      F32.magnitudeUnits (k * 2 ^ 23 + m) = m * 2 ^ k ∧
      F32.magnitudeUnits (k * 2 ^ 23 + m + 1) = (m + 1) * 2 ^ k ∧
      ((F32.roundMagnitude n d = min (k * 2 ^ 23 + m) F32.infMagnitude ∧
          (2 * r < d * 2 ^ k ∨ 2 * r = d * 2 ^ k ∧ m % 2 = 0)) ∨
        (F32.roundMagnitude n d = min (k * 2 ^ 23 + m + 1) F32.infMagnitude ∧
          (d * 2 ^ k < 2 * r ∨ 2 * r = d * 2 ^ k ∧ m % 2 = 1))) := by
  obtain ⟨k, hk⟩ : ∃ k, Nat.log2 (n / d) - 23 = k := ⟨_, rfl⟩
  have hg : 0 < d * 2 ^ k := Nat.mul_pos hd (Nat.two_pow_pos k)
  have hq : n / (d * 2 ^ k) = n / d / 2 ^ k := (Nat.div_div_eq_div_mul ..).symm
  have hm : n / (d * 2 ^ k) < 2 ^ 24 ∧ (k = 0 ∨ 2 ^ 23 ≤ n / (d * 2 ^ k)) := by
    rw [hq, Nat.div_lt_iff_lt_mul (Nat.two_pow_pos k), Nat.le_div_iff_mul_le (Nat.two_pow_pos k),
      ← Nat.pow_add, ← Nat.pow_add]
    constructor
    · exact Nat.lt_of_lt_of_le Nat.lt_log2_self (Nat.pow_le_pow_right (by omega) (by omega))
    · by_cases h0 : k = 0
      · exact .inl h0
      · refine .inr ((Nat.pow_le_pow_right (by omega) (by omega)).trans (Nat.log2_self_le ?_))
        intro h; rw [h] at hk; simp at hk; omega
  refine ⟨k, n / (d * 2 ^ k), n % (d * 2 ^ k), ?_, Nat.mod_lt _ hg,
    F32.magnitudeUnits_encoded _ _ (by omega) hm.2, ?_, ?_⟩
  · rw [Nat.mul_assoc, Nat.mul_comm (2 ^ k) d, Nat.mul_comm]; exact (Nat.div_add_mod ..).symm
  · rw [Nat.add_assoc]; exact F32.magnitudeUnits_encoded _ _ (by omega) (by omega)
  · simp only [F32.roundMagnitude, hk]
    split
    · exact .inl ⟨rfl, .inl ‹_›⟩
    · split
      · exact .inl ⟨rfl, .inr ‹_›⟩
      · exact .inr ⟨by rw [Nat.add_assoc], by omega⟩

/-- The rounding of rule R91: a finite result is nearest to `n / d` among all magnitudes, and where another
value is equally near, the result's last bit is 0. -/
theorem F32.roundMagnitude_nearest (n d q : Nat) (hd : 0 < d)
    (hfin : F32.roundMagnitude n d < F32.infMagnitude) :
    ((F32.magnitudeUnits (F32.roundMagnitude n d) * d : Nat) - (n : Int)).natAbs ≤
        ((F32.magnitudeUnits q * d : Nat) - (n : Int)).natAbs ∧
      (((F32.magnitudeUnits (F32.roundMagnitude n d) * d : Nat) - (n : Int)).natAbs =
          ((F32.magnitudeUnits q * d : Nat) - (n : Int)).natAbs →
        q = F32.roundMagnitude n d ∨ F32.roundMagnitude n d % 2 = 0) := by
  obtain ⟨k, m, r, hn, hr, hlo, hhi, h⟩ := F32.roundMagnitude_cases n d hd
  have hlo2 : m * 2 ^ k * d + d * 2 ^ k = (m + 1) * 2 ^ k * d := by ring
  have hcmp : (F32.magnitudeUnits q * d ≤ m * 2 ^ k * d ∧
        (F32.magnitudeUnits q * d = m * 2 ^ k * d → q = k * 2 ^ 23 + m)) ∨
      ((m + 1) * 2 ^ k * d ≤ F32.magnitudeUnits q * d ∧
        (F32.magnitudeUnits q * d = (m + 1) * 2 ^ k * d → q = k * 2 ^ 23 + m + 1)) := by
    have inj {a b : Nat} (h : F32.magnitudeUnits a * d = F32.magnitudeUnits b * d) : a = b :=
      F32.magnitudeUnits_strictMono.injective (Nat.eq_of_mul_eq_mul_right hd h)
    rcases Nat.lt_or_ge (k * 2 ^ 23 + m) q with h | h
    · refine .inr ⟨?_, fun e => inj (by rw [e, hhi])⟩
      rw [← hhi]; exact Nat.mul_le_mul_right d (F32.magnitudeUnits_strictMono.monotone h)
    · refine .inl ⟨?_, fun e => inj (by rw [e, hlo])⟩
      rw [← hlo]; exact Nat.mul_le_mul_right d (F32.magnitudeUnits_strictMono.monotone h)
  have hmin {a : Nat} (h : F32.roundMagnitude n d = min a F32.infMagnitude) :
      F32.roundMagnitude n d = a := by omega
  rcases h with ⟨h, hc⟩ | ⟨h, hc⟩
  · rw [hmin h, hlo]
    generalize F32.magnitudeUnits q * d = Q at *
    generalize m * 2 ^ k * d = L at *
    generalize (m + 1) * 2 ^ k * d = H at *
    generalize d * 2 ^ k = g at *
    omega
  · rw [hmin h, hhi]
    generalize F32.magnitudeUnits q * d = Q at *
    generalize m * 2 ^ k * d = L at *
    generalize (m + 1) * 2 ^ k * d = H at *
    generalize d * 2 ^ k = g at *
    omega

end Sys2Proof
end

