-- ==== Sys2Proof/Laws/State.lean ====
section
/-!
SUPPORT. One lemma per field per update of the state, each true by definition, so that no later proof
unfolds a record update; and the same for `PWM_PERIOD`, `timerGap` and `resetBlock`.
-/
namespace Sys2Proof.Machine

@[simp] theorem Latch.of_val {w : Nat} (v : BitVec w) : (Latch.of v).val = v := rfl
@[simp] theorem Latch.of_written {w : Nat} (v : BitVec w) : (Latch.of v).written = true := rfl
@[simp] theorem Latch.unwritten_val (w : Nat) : (Latch.unwritten w).val = 0 := rfl
@[simp] theorem Latch.unwritten_written (w : Nat) : (Latch.unwritten w).written = false := rfl

@[simp] theorem thenDo_next (s : State) (k : State → Result) : thenDo (.next s) k = k s := rfl
@[simp] theorem thenDo_fault (r : Fault) (k : State → Result) : thenDo (.fault r) k = .fault r := rfl
@[simp] theorem thenDo_refused (r : Refusal) (k : State → Result) :
    thenDo (.refused r) k = .refused r := rfl

@[simp] theorem Duties.set_ch1 (d : Duties) (v : Half) : d.set .ch1 v = ⟨v, d.ch2, d.ch3⟩ := rfl
@[simp] theorem Duties.set_ch2 (d : Duties) (v : Half) : d.set .ch2 v = ⟨d.ch1, v, d.ch3⟩ := rfl
@[simp] theorem Duties.set_ch3 (d : Duties) (v : Half) : d.set .ch3 v = ⟨d.ch1, d.ch2, v⟩ := rfl

@[simp] theorem State.setSeq_cb (s : State) (v : StepCode) : (s.setSeq v).cb = s.cb := rfl
@[simp] theorem State.setSeq_pct (s : State) (v : StepCode) : (s.setSeq v).pct = s.pct := rfl
@[simp] theorem State.setSeq_rd (s : State) (v : StepCode) : (s.setSeq v).rd = s.rd := rfl
@[simp] theorem State.setSeq_df (s : State) (v : StepCode) : (s.setSeq v).df = s.df := rfl
@[simp] theorem State.setSeq_dc (s : State) (v : StepCode) : (s.setSeq v).dc = s.dc := rfl
@[simp] theorem State.setSeq_maxd (s : State) (v : StepCode) : (s.setSeq v).maxd = s.maxd := rfl
@[simp] theorem State.setSeq_seq (s : State) (v : StepCode) : (s.setSeq v).seq = v := rfl
@[simp] theorem State.setSeq_fsel (s : State) (v : StepCode) : (s.setSeq v).fsel = s.fsel := rfl
@[simp] theorem State.setSeq_en (s : State) (v : StepCode) : (s.setSeq v).en = s.en := rfl
@[simp] theorem State.setSeq_dutySh (s : State) (v : StepCode) :
    (s.setSeq v).dutySh = s.dutySh := rfl
@[simp] theorem State.setSeq_dutyAct (s : State) (v : StepCode) :
    (s.setSeq v).dutyAct = s.dutyAct := rfl
@[simp] theorem State.setSeq_cnt (s : State) (v : StepCode) : (s.setSeq v).cnt = s.cnt := rfl
@[simp] theorem State.setSeq_busRead (s : State) (v : StepCode) :
    (s.setSeq v).busRead = s.busRead := rfl
@[simp] theorem State.setSeq_dutyPending (s : State) (v : StepCode) :
    (s.setSeq v).dutyPending = s.dutyPending := rfl
@[simp] theorem State.setSeq_maxDuty (s : State) (v : StepCode) :
    (s.setSeq v).maxDuty = s.maxDuty := rfl
@[simp] theorem State.setSeq_maxDuty1k (s : State) (v : StepCode) :
    (s.setSeq v).maxDuty1k = s.maxDuty1k := rfl
@[simp] theorem State.setSeq_offer (s : State) (v : StepCode) : (s.setSeq v).offer = s.offer := rfl
@[simp] theorem State.setSeq_env (s : State) (v : StepCode) : (s.setSeq v).env = s.env := rfl
@[simp] theorem State.setSeq_unwrittenRead (s : State) (v : StepCode) :
    (s.setSeq v).unwrittenRead = s.unwrittenRead := rfl
@[simp] theorem State.setSeq_agenda (s : State) (v : StepCode) :
    (s.setSeq v).agenda = s.agenda := rfl
@[simp] theorem State.setSeq_drawn (s : State) (v : StepCode) : (s.setSeq v).drawn = s.drawn := rfl
@[simp] theorem State.setSeq_pwmPeriod (s : State) (v : StepCode) :
    (s.setSeq v).pwmPeriod = s.pwmPeriod := rfl

@[simp] theorem State.writeCb_cb (s : State) (v : Byte) : (s.writeCb v).cb = Latch.of v := rfl
@[simp] theorem State.writeCb_pct (s : State) (v : Byte) : (s.writeCb v).pct = s.pct := rfl
@[simp] theorem State.writeCb_rd (s : State) (v : Byte) : (s.writeCb v).rd = s.rd := rfl
@[simp] theorem State.writeCb_df (s : State) (v : Byte) : (s.writeCb v).df = s.df := rfl
@[simp] theorem State.writeCb_dc (s : State) (v : Byte) : (s.writeCb v).dc = s.dc := rfl
@[simp] theorem State.writeCb_maxd (s : State) (v : Byte) : (s.writeCb v).maxd = s.maxd := rfl
@[simp] theorem State.writeCb_seq (s : State) (v : Byte) : (s.writeCb v).seq = s.seq := rfl
@[simp] theorem State.writeCb_fsel (s : State) (v : Byte) : (s.writeCb v).fsel = s.fsel := rfl
@[simp] theorem State.writeCb_en (s : State) (v : Byte) : (s.writeCb v).en = s.en := rfl
@[simp] theorem State.writeCb_dutySh (s : State) (v : Byte) :
    (s.writeCb v).dutySh = s.dutySh := rfl
@[simp] theorem State.writeCb_dutyAct (s : State) (v : Byte) :
    (s.writeCb v).dutyAct = s.dutyAct := rfl
@[simp] theorem State.writeCb_cnt (s : State) (v : Byte) : (s.writeCb v).cnt = s.cnt := rfl
@[simp] theorem State.writeCb_busRead (s : State) (v : Byte) :
    (s.writeCb v).busRead = s.busRead := rfl
@[simp] theorem State.writeCb_dutyPending (s : State) (v : Byte) :
    (s.writeCb v).dutyPending = s.dutyPending := rfl
@[simp] theorem State.writeCb_maxDuty (s : State) (v : Byte) :
    (s.writeCb v).maxDuty = s.maxDuty := rfl
@[simp] theorem State.writeCb_maxDuty1k (s : State) (v : Byte) :
    (s.writeCb v).maxDuty1k = s.maxDuty1k := rfl
@[simp] theorem State.writeCb_offer (s : State) (v : Byte) : (s.writeCb v).offer = s.offer := rfl
@[simp] theorem State.writeCb_env (s : State) (v : Byte) : (s.writeCb v).env = s.env := rfl
@[simp] theorem State.writeCb_unwrittenRead (s : State) (v : Byte) :
    (s.writeCb v).unwrittenRead = s.unwrittenRead := rfl
@[simp] theorem State.writeCb_agenda (s : State) (v : Byte) :
    (s.writeCb v).agenda = s.agenda := rfl
@[simp] theorem State.writeCb_drawn (s : State) (v : Byte) : (s.writeCb v).drawn = s.drawn := rfl
@[simp] theorem State.writeCb_pwmPeriod (s : State) (v : Byte) :
    (s.writeCb v).pwmPeriod = s.pwmPeriod := rfl

@[simp] theorem State.writePct_cb (s : State) (v : F32) : (s.writePct v).cb = s.cb := rfl
@[simp] theorem State.writePct_pct (s : State) (v : F32) : (s.writePct v).pct = Latch.of v := rfl
@[simp] theorem State.writePct_rd (s : State) (v : F32) : (s.writePct v).rd = s.rd := rfl
@[simp] theorem State.writePct_df (s : State) (v : F32) : (s.writePct v).df = s.df := rfl
@[simp] theorem State.writePct_dc (s : State) (v : F32) : (s.writePct v).dc = s.dc := rfl
@[simp] theorem State.writePct_maxd (s : State) (v : F32) : (s.writePct v).maxd = s.maxd := rfl
@[simp] theorem State.writePct_seq (s : State) (v : F32) : (s.writePct v).seq = s.seq := rfl
@[simp] theorem State.writePct_fsel (s : State) (v : F32) : (s.writePct v).fsel = s.fsel := rfl
@[simp] theorem State.writePct_en (s : State) (v : F32) : (s.writePct v).en = s.en := rfl
@[simp] theorem State.writePct_dutySh (s : State) (v : F32) :
    (s.writePct v).dutySh = s.dutySh := rfl
@[simp] theorem State.writePct_dutyAct (s : State) (v : F32) :
    (s.writePct v).dutyAct = s.dutyAct := rfl
@[simp] theorem State.writePct_cnt (s : State) (v : F32) : (s.writePct v).cnt = s.cnt := rfl
@[simp] theorem State.writePct_busRead (s : State) (v : F32) :
    (s.writePct v).busRead = s.busRead := rfl
@[simp] theorem State.writePct_dutyPending (s : State) (v : F32) :
    (s.writePct v).dutyPending = s.dutyPending := rfl
@[simp] theorem State.writePct_maxDuty (s : State) (v : F32) :
    (s.writePct v).maxDuty = s.maxDuty := rfl
@[simp] theorem State.writePct_maxDuty1k (s : State) (v : F32) :
    (s.writePct v).maxDuty1k = s.maxDuty1k := rfl
@[simp] theorem State.writePct_offer (s : State) (v : F32) : (s.writePct v).offer = s.offer := rfl
@[simp] theorem State.writePct_env (s : State) (v : F32) : (s.writePct v).env = s.env := rfl
@[simp] theorem State.writePct_unwrittenRead (s : State) (v : F32) :
    (s.writePct v).unwrittenRead = s.unwrittenRead := rfl
@[simp] theorem State.writePct_agenda (s : State) (v : F32) :
    (s.writePct v).agenda = s.agenda := rfl
@[simp] theorem State.writePct_drawn (s : State) (v : F32) : (s.writePct v).drawn = s.drawn := rfl
@[simp] theorem State.writePct_pwmPeriod (s : State) (v : F32) :
    (s.writePct v).pwmPeriod = s.pwmPeriod := rfl

@[simp] theorem State.writeRd_cb (s : State) (v : F32) : (s.writeRd v).cb = s.cb := rfl
@[simp] theorem State.writeRd_pct (s : State) (v : F32) : (s.writeRd v).pct = s.pct := rfl
@[simp] theorem State.writeRd_rd (s : State) (v : F32) : (s.writeRd v).rd = Latch.of v := rfl
@[simp] theorem State.writeRd_df (s : State) (v : F32) : (s.writeRd v).df = s.df := rfl
@[simp] theorem State.writeRd_dc (s : State) (v : F32) : (s.writeRd v).dc = s.dc := rfl
@[simp] theorem State.writeRd_maxd (s : State) (v : F32) : (s.writeRd v).maxd = s.maxd := rfl
@[simp] theorem State.writeRd_seq (s : State) (v : F32) : (s.writeRd v).seq = s.seq := rfl
@[simp] theorem State.writeRd_fsel (s : State) (v : F32) : (s.writeRd v).fsel = s.fsel := rfl
@[simp] theorem State.writeRd_en (s : State) (v : F32) : (s.writeRd v).en = s.en := rfl
@[simp] theorem State.writeRd_dutySh (s : State) (v : F32) : (s.writeRd v).dutySh = s.dutySh := rfl
@[simp] theorem State.writeRd_dutyAct (s : State) (v : F32) :
    (s.writeRd v).dutyAct = s.dutyAct := rfl
@[simp] theorem State.writeRd_cnt (s : State) (v : F32) : (s.writeRd v).cnt = s.cnt := rfl
@[simp] theorem State.writeRd_busRead (s : State) (v : F32) :
    (s.writeRd v).busRead = s.busRead := rfl
@[simp] theorem State.writeRd_dutyPending (s : State) (v : F32) :
    (s.writeRd v).dutyPending = s.dutyPending := rfl
@[simp] theorem State.writeRd_maxDuty (s : State) (v : F32) :
    (s.writeRd v).maxDuty = s.maxDuty := rfl
@[simp] theorem State.writeRd_maxDuty1k (s : State) (v : F32) :
    (s.writeRd v).maxDuty1k = s.maxDuty1k := rfl
@[simp] theorem State.writeRd_offer (s : State) (v : F32) : (s.writeRd v).offer = s.offer := rfl
@[simp] theorem State.writeRd_env (s : State) (v : F32) : (s.writeRd v).env = s.env := rfl
@[simp] theorem State.writeRd_unwrittenRead (s : State) (v : F32) :
    (s.writeRd v).unwrittenRead = s.unwrittenRead := rfl
@[simp] theorem State.writeRd_agenda (s : State) (v : F32) : (s.writeRd v).agenda = s.agenda := rfl
@[simp] theorem State.writeRd_drawn (s : State) (v : F32) : (s.writeRd v).drawn = s.drawn := rfl
@[simp] theorem State.writeRd_pwmPeriod (s : State) (v : F32) :
    (s.writeRd v).pwmPeriod = s.pwmPeriod := rfl

@[simp] theorem State.writeDf_cb (s : State) (v : F32) : (s.writeDf v).cb = s.cb := rfl
@[simp] theorem State.writeDf_pct (s : State) (v : F32) : (s.writeDf v).pct = s.pct := rfl
@[simp] theorem State.writeDf_rd (s : State) (v : F32) : (s.writeDf v).rd = s.rd := rfl
@[simp] theorem State.writeDf_df (s : State) (v : F32) : (s.writeDf v).df = Latch.of v := rfl
@[simp] theorem State.writeDf_dc (s : State) (v : F32) : (s.writeDf v).dc = s.dc := rfl
@[simp] theorem State.writeDf_maxd (s : State) (v : F32) : (s.writeDf v).maxd = s.maxd := rfl
@[simp] theorem State.writeDf_seq (s : State) (v : F32) : (s.writeDf v).seq = s.seq := rfl
@[simp] theorem State.writeDf_fsel (s : State) (v : F32) : (s.writeDf v).fsel = s.fsel := rfl
@[simp] theorem State.writeDf_en (s : State) (v : F32) : (s.writeDf v).en = s.en := rfl
@[simp] theorem State.writeDf_dutySh (s : State) (v : F32) : (s.writeDf v).dutySh = s.dutySh := rfl
@[simp] theorem State.writeDf_dutyAct (s : State) (v : F32) :
    (s.writeDf v).dutyAct = s.dutyAct := rfl
@[simp] theorem State.writeDf_cnt (s : State) (v : F32) : (s.writeDf v).cnt = s.cnt := rfl
@[simp] theorem State.writeDf_busRead (s : State) (v : F32) :
    (s.writeDf v).busRead = s.busRead := rfl
@[simp] theorem State.writeDf_dutyPending (s : State) (v : F32) :
    (s.writeDf v).dutyPending = s.dutyPending := rfl
@[simp] theorem State.writeDf_maxDuty (s : State) (v : F32) :
    (s.writeDf v).maxDuty = s.maxDuty := rfl
@[simp] theorem State.writeDf_maxDuty1k (s : State) (v : F32) :
    (s.writeDf v).maxDuty1k = s.maxDuty1k := rfl
@[simp] theorem State.writeDf_offer (s : State) (v : F32) : (s.writeDf v).offer = s.offer := rfl
@[simp] theorem State.writeDf_env (s : State) (v : F32) : (s.writeDf v).env = s.env := rfl
@[simp] theorem State.writeDf_unwrittenRead (s : State) (v : F32) :
    (s.writeDf v).unwrittenRead = s.unwrittenRead := rfl
@[simp] theorem State.writeDf_agenda (s : State) (v : F32) : (s.writeDf v).agenda = s.agenda := rfl
@[simp] theorem State.writeDf_drawn (s : State) (v : F32) : (s.writeDf v).drawn = s.drawn := rfl
@[simp] theorem State.writeDf_pwmPeriod (s : State) (v : F32) :
    (s.writeDf v).pwmPeriod = s.pwmPeriod := rfl

@[simp] theorem State.writeDc_cb (s : State) (v : Half) : (s.writeDc v).cb = s.cb := rfl
@[simp] theorem State.writeDc_pct (s : State) (v : Half) : (s.writeDc v).pct = s.pct := rfl
@[simp] theorem State.writeDc_rd (s : State) (v : Half) : (s.writeDc v).rd = s.rd := rfl
@[simp] theorem State.writeDc_df (s : State) (v : Half) : (s.writeDc v).df = s.df := rfl
@[simp] theorem State.writeDc_dc (s : State) (v : Half) : (s.writeDc v).dc = Latch.of v := rfl
@[simp] theorem State.writeDc_maxd (s : State) (v : Half) : (s.writeDc v).maxd = s.maxd := rfl
@[simp] theorem State.writeDc_seq (s : State) (v : Half) : (s.writeDc v).seq = s.seq := rfl
@[simp] theorem State.writeDc_fsel (s : State) (v : Half) : (s.writeDc v).fsel = s.fsel := rfl
@[simp] theorem State.writeDc_en (s : State) (v : Half) : (s.writeDc v).en = s.en := rfl
@[simp] theorem State.writeDc_dutySh (s : State) (v : Half) :
    (s.writeDc v).dutySh = s.dutySh := rfl
@[simp] theorem State.writeDc_dutyAct (s : State) (v : Half) :
    (s.writeDc v).dutyAct = s.dutyAct := rfl
@[simp] theorem State.writeDc_cnt (s : State) (v : Half) : (s.writeDc v).cnt = s.cnt := rfl
@[simp] theorem State.writeDc_busRead (s : State) (v : Half) :
    (s.writeDc v).busRead = s.busRead := rfl
@[simp] theorem State.writeDc_dutyPending (s : State) (v : Half) :
    (s.writeDc v).dutyPending = s.dutyPending := rfl
@[simp] theorem State.writeDc_maxDuty (s : State) (v : Half) :
    (s.writeDc v).maxDuty = s.maxDuty := rfl
@[simp] theorem State.writeDc_maxDuty1k (s : State) (v : Half) :
    (s.writeDc v).maxDuty1k = s.maxDuty1k := rfl
@[simp] theorem State.writeDc_offer (s : State) (v : Half) : (s.writeDc v).offer = s.offer := rfl
@[simp] theorem State.writeDc_env (s : State) (v : Half) : (s.writeDc v).env = s.env := rfl
@[simp] theorem State.writeDc_unwrittenRead (s : State) (v : Half) :
    (s.writeDc v).unwrittenRead = s.unwrittenRead := rfl
@[simp] theorem State.writeDc_agenda (s : State) (v : Half) :
    (s.writeDc v).agenda = s.agenda := rfl
@[simp] theorem State.writeDc_drawn (s : State) (v : Half) : (s.writeDc v).drawn = s.drawn := rfl
@[simp] theorem State.writeDc_pwmPeriod (s : State) (v : Half) :
    (s.writeDc v).pwmPeriod = s.pwmPeriod := rfl

@[simp] theorem State.writeMaxd_cb (s : State) (v : Half) : (s.writeMaxd v).cb = s.cb := rfl
@[simp] theorem State.writeMaxd_pct (s : State) (v : Half) : (s.writeMaxd v).pct = s.pct := rfl
@[simp] theorem State.writeMaxd_rd (s : State) (v : Half) : (s.writeMaxd v).rd = s.rd := rfl
@[simp] theorem State.writeMaxd_df (s : State) (v : Half) : (s.writeMaxd v).df = s.df := rfl
@[simp] theorem State.writeMaxd_dc (s : State) (v : Half) : (s.writeMaxd v).dc = s.dc := rfl
@[simp] theorem State.writeMaxd_maxd (s : State) (v : Half) :
    (s.writeMaxd v).maxd = Latch.of v := rfl
@[simp] theorem State.writeMaxd_seq (s : State) (v : Half) : (s.writeMaxd v).seq = s.seq := rfl
@[simp] theorem State.writeMaxd_fsel (s : State) (v : Half) : (s.writeMaxd v).fsel = s.fsel := rfl
@[simp] theorem State.writeMaxd_en (s : State) (v : Half) : (s.writeMaxd v).en = s.en := rfl
@[simp] theorem State.writeMaxd_dutySh (s : State) (v : Half) :
    (s.writeMaxd v).dutySh = s.dutySh := rfl
@[simp] theorem State.writeMaxd_dutyAct (s : State) (v : Half) :
    (s.writeMaxd v).dutyAct = s.dutyAct := rfl
@[simp] theorem State.writeMaxd_cnt (s : State) (v : Half) : (s.writeMaxd v).cnt = s.cnt := rfl
@[simp] theorem State.writeMaxd_busRead (s : State) (v : Half) :
    (s.writeMaxd v).busRead = s.busRead := rfl
@[simp] theorem State.writeMaxd_dutyPending (s : State) (v : Half) :
    (s.writeMaxd v).dutyPending = s.dutyPending := rfl
@[simp] theorem State.writeMaxd_maxDuty (s : State) (v : Half) :
    (s.writeMaxd v).maxDuty = s.maxDuty := rfl
@[simp] theorem State.writeMaxd_maxDuty1k (s : State) (v : Half) :
    (s.writeMaxd v).maxDuty1k = s.maxDuty1k := rfl
@[simp] theorem State.writeMaxd_offer (s : State) (v : Half) :
    (s.writeMaxd v).offer = s.offer := rfl
@[simp] theorem State.writeMaxd_env (s : State) (v : Half) : (s.writeMaxd v).env = s.env := rfl
@[simp] theorem State.writeMaxd_unwrittenRead (s : State) (v : Half) :
    (s.writeMaxd v).unwrittenRead = s.unwrittenRead := rfl
@[simp] theorem State.writeMaxd_agenda (s : State) (v : Half) :
    (s.writeMaxd v).agenda = s.agenda := rfl
@[simp] theorem State.writeMaxd_drawn (s : State) (v : Half) :
    (s.writeMaxd v).drawn = s.drawn := rfl
@[simp] theorem State.writeMaxd_pwmPeriod (s : State) (v : Half) :
    (s.writeMaxd v).pwmPeriod = s.pwmPeriod := rfl

@[simp] theorem State.setFsel_cb (s : State) (v : Freq) : (s.setFsel v).cb = s.cb := rfl
@[simp] theorem State.setFsel_pct (s : State) (v : Freq) : (s.setFsel v).pct = s.pct := rfl
@[simp] theorem State.setFsel_rd (s : State) (v : Freq) : (s.setFsel v).rd = s.rd := rfl
@[simp] theorem State.setFsel_df (s : State) (v : Freq) : (s.setFsel v).df = s.df := rfl
@[simp] theorem State.setFsel_dc (s : State) (v : Freq) : (s.setFsel v).dc = s.dc := rfl
@[simp] theorem State.setFsel_maxd (s : State) (v : Freq) : (s.setFsel v).maxd = s.maxd := rfl
@[simp] theorem State.setFsel_seq (s : State) (v : Freq) : (s.setFsel v).seq = s.seq := rfl
@[simp] theorem State.setFsel_fsel (s : State) (v : Freq) : (s.setFsel v).fsel = v := rfl
@[simp] theorem State.setFsel_en (s : State) (v : Freq) : (s.setFsel v).en = s.en := rfl
@[simp] theorem State.setFsel_dutySh (s : State) (v : Freq) :
    (s.setFsel v).dutySh = s.dutySh := rfl
@[simp] theorem State.setFsel_dutyAct (s : State) (v : Freq) :
    (s.setFsel v).dutyAct = s.dutyAct := rfl
@[simp] theorem State.setFsel_cnt (s : State) (v : Freq) : (s.setFsel v).cnt = s.cnt := rfl
@[simp] theorem State.setFsel_busRead (s : State) (v : Freq) :
    (s.setFsel v).busRead = s.busRead := rfl
@[simp] theorem State.setFsel_dutyPending (s : State) (v : Freq) :
    (s.setFsel v).dutyPending = s.dutyPending := rfl
@[simp] theorem State.setFsel_maxDuty (s : State) (v : Freq) :
    (s.setFsel v).maxDuty = s.maxDuty := rfl
@[simp] theorem State.setFsel_maxDuty1k (s : State) (v : Freq) :
    (s.setFsel v).maxDuty1k = s.maxDuty1k := rfl
@[simp] theorem State.setFsel_offer (s : State) (v : Freq) : (s.setFsel v).offer = s.offer := rfl
@[simp] theorem State.setFsel_env (s : State) (v : Freq) : (s.setFsel v).env = s.env := rfl
@[simp] theorem State.setFsel_unwrittenRead (s : State) (v : Freq) :
    (s.setFsel v).unwrittenRead = s.unwrittenRead := rfl
@[simp] theorem State.setFsel_agenda (s : State) (v : Freq) :
    (s.setFsel v).agenda = s.agenda := rfl
@[simp] theorem State.setFsel_drawn (s : State) (v : Freq) : (s.setFsel v).drawn = s.drawn := rfl

@[simp] theorem State.setEn_cb (s : State) (v : BitVec 3) : (s.setEn v).cb = s.cb := rfl
@[simp] theorem State.setEn_pct (s : State) (v : BitVec 3) : (s.setEn v).pct = s.pct := rfl
@[simp] theorem State.setEn_rd (s : State) (v : BitVec 3) : (s.setEn v).rd = s.rd := rfl
@[simp] theorem State.setEn_df (s : State) (v : BitVec 3) : (s.setEn v).df = s.df := rfl
@[simp] theorem State.setEn_dc (s : State) (v : BitVec 3) : (s.setEn v).dc = s.dc := rfl
@[simp] theorem State.setEn_maxd (s : State) (v : BitVec 3) : (s.setEn v).maxd = s.maxd := rfl
@[simp] theorem State.setEn_seq (s : State) (v : BitVec 3) : (s.setEn v).seq = s.seq := rfl
@[simp] theorem State.setEn_fsel (s : State) (v : BitVec 3) : (s.setEn v).fsel = s.fsel := rfl
@[simp] theorem State.setEn_en (s : State) (v : BitVec 3) : (s.setEn v).en = v := rfl
@[simp] theorem State.setEn_dutySh (s : State) (v : BitVec 3) :
    (s.setEn v).dutySh = s.dutySh := rfl
@[simp] theorem State.setEn_dutyAct (s : State) (v : BitVec 3) :
    (s.setEn v).dutyAct = s.dutyAct := rfl
@[simp] theorem State.setEn_cnt (s : State) (v : BitVec 3) : (s.setEn v).cnt = s.cnt := rfl
@[simp] theorem State.setEn_busRead (s : State) (v : BitVec 3) :
    (s.setEn v).busRead = s.busRead := rfl
@[simp] theorem State.setEn_dutyPending (s : State) (v : BitVec 3) :
    (s.setEn v).dutyPending = s.dutyPending := rfl
@[simp] theorem State.setEn_maxDuty (s : State) (v : BitVec 3) :
    (s.setEn v).maxDuty = s.maxDuty := rfl
@[simp] theorem State.setEn_maxDuty1k (s : State) (v : BitVec 3) :
    (s.setEn v).maxDuty1k = s.maxDuty1k := rfl
@[simp] theorem State.setEn_offer (s : State) (v : BitVec 3) : (s.setEn v).offer = s.offer := rfl
@[simp] theorem State.setEn_env (s : State) (v : BitVec 3) : (s.setEn v).env = s.env := rfl
@[simp] theorem State.setEn_unwrittenRead (s : State) (v : BitVec 3) :
    (s.setEn v).unwrittenRead = s.unwrittenRead := rfl
@[simp] theorem State.setEn_agenda (s : State) (v : BitVec 3) :
    (s.setEn v).agenda = s.agenda := rfl
@[simp] theorem State.setEn_drawn (s : State) (v : BitVec 3) : (s.setEn v).drawn = s.drawn := rfl
@[simp] theorem State.setEn_pwmPeriod (s : State) (v : BitVec 3) :
    (s.setEn v).pwmPeriod = s.pwmPeriod := rfl

@[simp] theorem State.setBusRead_cb (s : State) (v : Half) : (s.setBusRead v).cb = s.cb := rfl
@[simp] theorem State.setBusRead_pct (s : State) (v : Half) : (s.setBusRead v).pct = s.pct := rfl
@[simp] theorem State.setBusRead_rd (s : State) (v : Half) : (s.setBusRead v).rd = s.rd := rfl
@[simp] theorem State.setBusRead_df (s : State) (v : Half) : (s.setBusRead v).df = s.df := rfl
@[simp] theorem State.setBusRead_dc (s : State) (v : Half) : (s.setBusRead v).dc = s.dc := rfl
@[simp] theorem State.setBusRead_maxd (s : State) (v : Half) :
    (s.setBusRead v).maxd = s.maxd := rfl
@[simp] theorem State.setBusRead_seq (s : State) (v : Half) : (s.setBusRead v).seq = s.seq := rfl
@[simp] theorem State.setBusRead_fsel (s : State) (v : Half) :
    (s.setBusRead v).fsel = s.fsel := rfl
@[simp] theorem State.setBusRead_en (s : State) (v : Half) : (s.setBusRead v).en = s.en := rfl
@[simp] theorem State.setBusRead_dutySh (s : State) (v : Half) :
    (s.setBusRead v).dutySh = s.dutySh := rfl
@[simp] theorem State.setBusRead_dutyAct (s : State) (v : Half) :
    (s.setBusRead v).dutyAct = s.dutyAct := rfl
@[simp] theorem State.setBusRead_cnt (s : State) (v : Half) : (s.setBusRead v).cnt = s.cnt := rfl
@[simp] theorem State.setBusRead_busRead (s : State) (v : Half) :
    (s.setBusRead v).busRead = v := rfl
@[simp] theorem State.setBusRead_dutyPending (s : State) (v : Half) :
    (s.setBusRead v).dutyPending = s.dutyPending := rfl
@[simp] theorem State.setBusRead_maxDuty (s : State) (v : Half) :
    (s.setBusRead v).maxDuty = s.maxDuty := rfl
@[simp] theorem State.setBusRead_maxDuty1k (s : State) (v : Half) :
    (s.setBusRead v).maxDuty1k = s.maxDuty1k := rfl
@[simp] theorem State.setBusRead_offer (s : State) (v : Half) :
    (s.setBusRead v).offer = s.offer := rfl
@[simp] theorem State.setBusRead_env (s : State) (v : Half) : (s.setBusRead v).env = s.env := rfl
@[simp] theorem State.setBusRead_unwrittenRead (s : State) (v : Half) :
    (s.setBusRead v).unwrittenRead = s.unwrittenRead := rfl
@[simp] theorem State.setBusRead_agenda (s : State) (v : Half) :
    (s.setBusRead v).agenda = s.agenda := rfl
@[simp] theorem State.setBusRead_drawn (s : State) (v : Half) :
    (s.setBusRead v).drawn = s.drawn := rfl
@[simp] theorem State.setBusRead_pwmPeriod (s : State) (v : Half) :
    (s.setBusRead v).pwmPeriod = s.pwmPeriod := rfl

@[simp] theorem State.setOffer_cb (s : State) (v : Option Byte) : (s.setOffer v).cb = s.cb := rfl
@[simp] theorem State.setOffer_pct (s : State) (v : Option Byte) :
    (s.setOffer v).pct = s.pct := rfl
@[simp] theorem State.setOffer_rd (s : State) (v : Option Byte) : (s.setOffer v).rd = s.rd := rfl
@[simp] theorem State.setOffer_df (s : State) (v : Option Byte) : (s.setOffer v).df = s.df := rfl
@[simp] theorem State.setOffer_dc (s : State) (v : Option Byte) : (s.setOffer v).dc = s.dc := rfl
@[simp] theorem State.setOffer_maxd (s : State) (v : Option Byte) :
    (s.setOffer v).maxd = s.maxd := rfl
@[simp] theorem State.setOffer_seq (s : State) (v : Option Byte) :
    (s.setOffer v).seq = s.seq := rfl
@[simp] theorem State.setOffer_fsel (s : State) (v : Option Byte) :
    (s.setOffer v).fsel = s.fsel := rfl
@[simp] theorem State.setOffer_en (s : State) (v : Option Byte) : (s.setOffer v).en = s.en := rfl
@[simp] theorem State.setOffer_dutySh (s : State) (v : Option Byte) :
    (s.setOffer v).dutySh = s.dutySh := rfl
@[simp] theorem State.setOffer_dutyAct (s : State) (v : Option Byte) :
    (s.setOffer v).dutyAct = s.dutyAct := rfl
@[simp] theorem State.setOffer_cnt (s : State) (v : Option Byte) :
    (s.setOffer v).cnt = s.cnt := rfl
@[simp] theorem State.setOffer_busRead (s : State) (v : Option Byte) :
    (s.setOffer v).busRead = s.busRead := rfl
@[simp] theorem State.setOffer_dutyPending (s : State) (v : Option Byte) :
    (s.setOffer v).dutyPending = s.dutyPending := rfl
@[simp] theorem State.setOffer_maxDuty (s : State) (v : Option Byte) :
    (s.setOffer v).maxDuty = s.maxDuty := rfl
@[simp] theorem State.setOffer_maxDuty1k (s : State) (v : Option Byte) :
    (s.setOffer v).maxDuty1k = s.maxDuty1k := rfl
@[simp] theorem State.setOffer_offer (s : State) (v : Option Byte) :
    (s.setOffer v).offer = v := rfl
@[simp] theorem State.setOffer_env (s : State) (v : Option Byte) :
    (s.setOffer v).env = s.env := rfl
@[simp] theorem State.setOffer_unwrittenRead (s : State) (v : Option Byte) :
    (s.setOffer v).unwrittenRead = s.unwrittenRead := rfl
@[simp] theorem State.setOffer_agenda (s : State) (v : Option Byte) :
    (s.setOffer v).agenda = s.agenda := rfl
@[simp] theorem State.setOffer_drawn (s : State) (v : Option Byte) :
    (s.setOffer v).drawn = s.drawn := rfl
@[simp] theorem State.setOffer_pwmPeriod (s : State) (v : Option Byte) :
    (s.setOffer v).pwmPeriod = s.pwmPeriod := rfl

@[simp] theorem State.setEnv_cb (s : State) (v : Env) : (s.setEnv v).cb = s.cb := rfl
@[simp] theorem State.setEnv_pct (s : State) (v : Env) : (s.setEnv v).pct = s.pct := rfl
@[simp] theorem State.setEnv_rd (s : State) (v : Env) : (s.setEnv v).rd = s.rd := rfl
@[simp] theorem State.setEnv_df (s : State) (v : Env) : (s.setEnv v).df = s.df := rfl
@[simp] theorem State.setEnv_dc (s : State) (v : Env) : (s.setEnv v).dc = s.dc := rfl
@[simp] theorem State.setEnv_maxd (s : State) (v : Env) : (s.setEnv v).maxd = s.maxd := rfl
@[simp] theorem State.setEnv_seq (s : State) (v : Env) : (s.setEnv v).seq = s.seq := rfl
@[simp] theorem State.setEnv_fsel (s : State) (v : Env) : (s.setEnv v).fsel = s.fsel := rfl
@[simp] theorem State.setEnv_en (s : State) (v : Env) : (s.setEnv v).en = s.en := rfl
@[simp] theorem State.setEnv_dutySh (s : State) (v : Env) : (s.setEnv v).dutySh = s.dutySh := rfl
@[simp] theorem State.setEnv_dutyAct (s : State) (v : Env) :
    (s.setEnv v).dutyAct = s.dutyAct := rfl
@[simp] theorem State.setEnv_cnt (s : State) (v : Env) : (s.setEnv v).cnt = s.cnt := rfl
@[simp] theorem State.setEnv_busRead (s : State) (v : Env) :
    (s.setEnv v).busRead = s.busRead := rfl
@[simp] theorem State.setEnv_dutyPending (s : State) (v : Env) :
    (s.setEnv v).dutyPending = s.dutyPending := rfl
@[simp] theorem State.setEnv_maxDuty (s : State) (v : Env) :
    (s.setEnv v).maxDuty = s.maxDuty := rfl
@[simp] theorem State.setEnv_maxDuty1k (s : State) (v : Env) :
    (s.setEnv v).maxDuty1k = s.maxDuty1k := rfl
@[simp] theorem State.setEnv_offer (s : State) (v : Env) : (s.setEnv v).offer = s.offer := rfl
@[simp] theorem State.setEnv_env (s : State) (v : Env) : (s.setEnv v).env = v := rfl
@[simp] theorem State.setEnv_unwrittenRead (s : State) (v : Env) :
    (s.setEnv v).unwrittenRead = s.unwrittenRead := rfl
@[simp] theorem State.setEnv_agenda (s : State) (v : Env) : (s.setEnv v).agenda = s.agenda := rfl
@[simp] theorem State.setEnv_drawn (s : State) (v : Env) : (s.setEnv v).drawn = s.drawn := rfl
@[simp] theorem State.setEnv_pwmPeriod (s : State) (v : Env) :
    (s.setEnv v).pwmPeriod = s.pwmPeriod := rfl

@[simp] theorem State.setAgenda_cb (s : State) (v : List Turn) : (s.setAgenda v).cb = s.cb := rfl
@[simp] theorem State.setAgenda_pct (s : State) (v : List Turn) :
    (s.setAgenda v).pct = s.pct := rfl
@[simp] theorem State.setAgenda_rd (s : State) (v : List Turn) : (s.setAgenda v).rd = s.rd := rfl
@[simp] theorem State.setAgenda_df (s : State) (v : List Turn) : (s.setAgenda v).df = s.df := rfl
@[simp] theorem State.setAgenda_dc (s : State) (v : List Turn) : (s.setAgenda v).dc = s.dc := rfl
@[simp] theorem State.setAgenda_maxd (s : State) (v : List Turn) :
    (s.setAgenda v).maxd = s.maxd := rfl
@[simp] theorem State.setAgenda_seq (s : State) (v : List Turn) :
    (s.setAgenda v).seq = s.seq := rfl
@[simp] theorem State.setAgenda_fsel (s : State) (v : List Turn) :
    (s.setAgenda v).fsel = s.fsel := rfl
@[simp] theorem State.setAgenda_en (s : State) (v : List Turn) : (s.setAgenda v).en = s.en := rfl
@[simp] theorem State.setAgenda_dutySh (s : State) (v : List Turn) :
    (s.setAgenda v).dutySh = s.dutySh := rfl
@[simp] theorem State.setAgenda_dutyAct (s : State) (v : List Turn) :
    (s.setAgenda v).dutyAct = s.dutyAct := rfl
@[simp] theorem State.setAgenda_cnt (s : State) (v : List Turn) :
    (s.setAgenda v).cnt = s.cnt := rfl
@[simp] theorem State.setAgenda_busRead (s : State) (v : List Turn) :
    (s.setAgenda v).busRead = s.busRead := rfl
@[simp] theorem State.setAgenda_dutyPending (s : State) (v : List Turn) :
    (s.setAgenda v).dutyPending = s.dutyPending := rfl
@[simp] theorem State.setAgenda_maxDuty (s : State) (v : List Turn) :
    (s.setAgenda v).maxDuty = s.maxDuty := rfl
@[simp] theorem State.setAgenda_maxDuty1k (s : State) (v : List Turn) :
    (s.setAgenda v).maxDuty1k = s.maxDuty1k := rfl
@[simp] theorem State.setAgenda_offer (s : State) (v : List Turn) :
    (s.setAgenda v).offer = s.offer := rfl
@[simp] theorem State.setAgenda_env (s : State) (v : List Turn) :
    (s.setAgenda v).env = s.env := rfl
@[simp] theorem State.setAgenda_unwrittenRead (s : State) (v : List Turn) :
    (s.setAgenda v).unwrittenRead = s.unwrittenRead := rfl
@[simp] theorem State.setAgenda_agenda (s : State) (v : List Turn) :
    (s.setAgenda v).agenda = v := rfl
@[simp] theorem State.setAgenda_drawn (s : State) (v : List Turn) :
    (s.setAgenda v).drawn = s.drawn := rfl
@[simp] theorem State.setAgenda_pwmPeriod (s : State) (v : List Turn) :
    (s.setAgenda v).pwmPeriod = s.pwmPeriod := rfl

@[simp] theorem State.setTimer_cb (s : State) (c : Half) (d : Duties) (p : Bool) :
    (s.setTimer c d p).cb = s.cb := rfl
@[simp] theorem State.setTimer_pct (s : State) (c : Half) (d : Duties) (p : Bool) :
    (s.setTimer c d p).pct = s.pct := rfl
@[simp] theorem State.setTimer_rd (s : State) (c : Half) (d : Duties) (p : Bool) :
    (s.setTimer c d p).rd = s.rd := rfl
@[simp] theorem State.setTimer_df (s : State) (c : Half) (d : Duties) (p : Bool) :
    (s.setTimer c d p).df = s.df := rfl
@[simp] theorem State.setTimer_dc (s : State) (c : Half) (d : Duties) (p : Bool) :
    (s.setTimer c d p).dc = s.dc := rfl
@[simp] theorem State.setTimer_maxd (s : State) (c : Half) (d : Duties) (p : Bool) :
    (s.setTimer c d p).maxd = s.maxd := rfl
@[simp] theorem State.setTimer_seq (s : State) (c : Half) (d : Duties) (p : Bool) :
    (s.setTimer c d p).seq = s.seq := rfl
@[simp] theorem State.setTimer_fsel (s : State) (c : Half) (d : Duties) (p : Bool) :
    (s.setTimer c d p).fsel = s.fsel := rfl
@[simp] theorem State.setTimer_en (s : State) (c : Half) (d : Duties) (p : Bool) :
    (s.setTimer c d p).en = s.en := rfl
@[simp] theorem State.setTimer_dutySh (s : State) (c : Half) (d : Duties) (p : Bool) :
    (s.setTimer c d p).dutySh = s.dutySh := rfl
@[simp] theorem State.setTimer_dutyAct (s : State) (c : Half) (d : Duties) (p : Bool) :
    (s.setTimer c d p).dutyAct = d := rfl
@[simp] theorem State.setTimer_cnt (s : State) (c : Half) (d : Duties) (p : Bool) :
    (s.setTimer c d p).cnt = c := rfl
@[simp] theorem State.setTimer_busRead (s : State) (c : Half) (d : Duties) (p : Bool) :
    (s.setTimer c d p).busRead = s.busRead := rfl
@[simp] theorem State.setTimer_dutyPending (s : State) (c : Half) (d : Duties) (p : Bool) :
    (s.setTimer c d p).dutyPending = p := rfl
@[simp] theorem State.setTimer_maxDuty (s : State) (c : Half) (d : Duties) (p : Bool) :
    (s.setTimer c d p).maxDuty = s.maxDuty := rfl
@[simp] theorem State.setTimer_maxDuty1k (s : State) (c : Half) (d : Duties) (p : Bool) :
    (s.setTimer c d p).maxDuty1k = s.maxDuty1k := rfl
@[simp] theorem State.setTimer_offer (s : State) (c : Half) (d : Duties) (p : Bool) :
    (s.setTimer c d p).offer = s.offer := rfl
@[simp] theorem State.setTimer_env (s : State) (c : Half) (d : Duties) (p : Bool) :
    (s.setTimer c d p).env = s.env := rfl
@[simp] theorem State.setTimer_unwrittenRead (s : State) (c : Half) (d : Duties) (p : Bool) :
    (s.setTimer c d p).unwrittenRead = s.unwrittenRead := rfl
@[simp] theorem State.setTimer_agenda (s : State) (c : Half) (d : Duties) (p : Bool) :
    (s.setTimer c d p).agenda = s.agenda := rfl
@[simp] theorem State.setTimer_drawn (s : State) (c : Half) (d : Duties) (p : Bool) :
    (s.setTimer c d p).drawn = s.drawn := rfl
@[simp] theorem State.setTimer_pwmPeriod (s : State) (c : Half) (d : Duties) (p : Bool) :
    (s.setTimer c d p).pwmPeriod = s.pwmPeriod := rfl

@[simp] theorem State.setDutySh_cb (s : State) (ch : Channel) (v : Half) :
    (s.setDutySh ch v).cb = s.cb := rfl
@[simp] theorem State.setDutySh_pct (s : State) (ch : Channel) (v : Half) :
    (s.setDutySh ch v).pct = s.pct := rfl
@[simp] theorem State.setDutySh_rd (s : State) (ch : Channel) (v : Half) :
    (s.setDutySh ch v).rd = s.rd := rfl
@[simp] theorem State.setDutySh_df (s : State) (ch : Channel) (v : Half) :
    (s.setDutySh ch v).df = s.df := rfl
@[simp] theorem State.setDutySh_dc (s : State) (ch : Channel) (v : Half) :
    (s.setDutySh ch v).dc = s.dc := rfl
@[simp] theorem State.setDutySh_maxd (s : State) (ch : Channel) (v : Half) :
    (s.setDutySh ch v).maxd = s.maxd := rfl
@[simp] theorem State.setDutySh_seq (s : State) (ch : Channel) (v : Half) :
    (s.setDutySh ch v).seq = s.seq := rfl
@[simp] theorem State.setDutySh_fsel (s : State) (ch : Channel) (v : Half) :
    (s.setDutySh ch v).fsel = s.fsel := rfl
@[simp] theorem State.setDutySh_en (s : State) (ch : Channel) (v : Half) :
    (s.setDutySh ch v).en = s.en := rfl
@[simp] theorem State.setDutySh_dutySh (s : State) (ch : Channel) (v : Half) :
    (s.setDutySh ch v).dutySh = s.dutySh.set ch v := rfl
@[simp] theorem State.setDutySh_dutyAct (s : State) (ch : Channel) (v : Half) :
    (s.setDutySh ch v).dutyAct = s.dutyAct := rfl
@[simp] theorem State.setDutySh_cnt (s : State) (ch : Channel) (v : Half) :
    (s.setDutySh ch v).cnt = s.cnt := rfl
@[simp] theorem State.setDutySh_busRead (s : State) (ch : Channel) (v : Half) :
    (s.setDutySh ch v).busRead = s.busRead := rfl
@[simp] theorem State.setDutySh_dutyPending (s : State) (ch : Channel) (v : Half) :
    (s.setDutySh ch v).dutyPending = true := rfl
@[simp] theorem State.setDutySh_maxDuty (s : State) (ch : Channel) (v : Half) :
    (s.setDutySh ch v).maxDuty = s.maxDuty := rfl
@[simp] theorem State.setDutySh_maxDuty1k (s : State) (ch : Channel) (v : Half) :
    (s.setDutySh ch v).maxDuty1k = s.maxDuty1k := rfl
@[simp] theorem State.setDutySh_offer (s : State) (ch : Channel) (v : Half) :
    (s.setDutySh ch v).offer = s.offer := rfl
@[simp] theorem State.setDutySh_env (s : State) (ch : Channel) (v : Half) :
    (s.setDutySh ch v).env = s.env := rfl
@[simp] theorem State.setDutySh_unwrittenRead (s : State) (ch : Channel) (v : Half) :
    (s.setDutySh ch v).unwrittenRead = s.unwrittenRead := rfl
@[simp] theorem State.setDutySh_agenda (s : State) (ch : Channel) (v : Half) :
    (s.setDutySh ch v).agenda = s.agenda := rfl
@[simp] theorem State.setDutySh_drawn (s : State) (ch : Channel) (v : Half) :
    (s.setDutySh ch v).drawn = s.drawn := rfl
@[simp] theorem State.setDutySh_pwmPeriod (s : State) (ch : Channel) (v : Half) :
    (s.setDutySh ch v).pwmPeriod = s.pwmPeriod := rfl

@[simp] theorem State.noteRead_cb (s : State) (x : DataReg) (w : Bool) :
    (s.noteRead x w).cb = s.cb := rfl
@[simp] theorem State.noteRead_pct (s : State) (x : DataReg) (w : Bool) :
    (s.noteRead x w).pct = s.pct := rfl
@[simp] theorem State.noteRead_rd (s : State) (x : DataReg) (w : Bool) :
    (s.noteRead x w).rd = s.rd := rfl
@[simp] theorem State.noteRead_df (s : State) (x : DataReg) (w : Bool) :
    (s.noteRead x w).df = s.df := rfl
@[simp] theorem State.noteRead_dc (s : State) (x : DataReg) (w : Bool) :
    (s.noteRead x w).dc = s.dc := rfl
@[simp] theorem State.noteRead_maxd (s : State) (x : DataReg) (w : Bool) :
    (s.noteRead x w).maxd = s.maxd := rfl
@[simp] theorem State.noteRead_seq (s : State) (x : DataReg) (w : Bool) :
    (s.noteRead x w).seq = s.seq := rfl
@[simp] theorem State.noteRead_fsel (s : State) (x : DataReg) (w : Bool) :
    (s.noteRead x w).fsel = s.fsel := rfl
@[simp] theorem State.noteRead_en (s : State) (x : DataReg) (w : Bool) :
    (s.noteRead x w).en = s.en := rfl
@[simp] theorem State.noteRead_dutySh (s : State) (x : DataReg) (w : Bool) :
    (s.noteRead x w).dutySh = s.dutySh := rfl
@[simp] theorem State.noteRead_dutyAct (s : State) (x : DataReg) (w : Bool) :
    (s.noteRead x w).dutyAct = s.dutyAct := rfl
@[simp] theorem State.noteRead_cnt (s : State) (x : DataReg) (w : Bool) :
    (s.noteRead x w).cnt = s.cnt := rfl
@[simp] theorem State.noteRead_busRead (s : State) (x : DataReg) (w : Bool) :
    (s.noteRead x w).busRead = s.busRead := rfl
@[simp] theorem State.noteRead_dutyPending (s : State) (x : DataReg) (w : Bool) :
    (s.noteRead x w).dutyPending = s.dutyPending := rfl
@[simp] theorem State.noteRead_maxDuty (s : State) (x : DataReg) (w : Bool) :
    (s.noteRead x w).maxDuty = s.maxDuty := rfl
@[simp] theorem State.noteRead_maxDuty1k (s : State) (x : DataReg) (w : Bool) :
    (s.noteRead x w).maxDuty1k = s.maxDuty1k := rfl
@[simp] theorem State.noteRead_offer (s : State) (x : DataReg) (w : Bool) :
    (s.noteRead x w).offer = s.offer := rfl
@[simp] theorem State.noteRead_env (s : State) (x : DataReg) (w : Bool) :
    (s.noteRead x w).env = s.env := rfl
@[simp] theorem State.noteRead_unwrittenRead (s : State) (x : DataReg) (w : Bool) :
    (s.noteRead x w).unwrittenRead = if w || s.unwrittenRead.isSome then s.unwrittenRead else some x := rfl
@[simp] theorem State.noteRead_agenda (s : State) (x : DataReg) (w : Bool) :
    (s.noteRead x w).agenda = s.agenda := rfl
@[simp] theorem State.noteRead_drawn (s : State) (x : DataReg) (w : Bool) :
    (s.noteRead x w).drawn = s.drawn := rfl
@[simp] theorem State.noteRead_pwmPeriod (s : State) (x : DataReg) (w : Bool) :
    (s.noteRead x w).pwmPeriod = s.pwmPeriod := rfl

@[simp] theorem State.draw_cb (s : State) : (s.draw).cb = s.cb := rfl
@[simp] theorem State.draw_pct (s : State) : (s.draw).pct = s.pct := rfl
@[simp] theorem State.draw_rd (s : State) : (s.draw).rd = s.rd := rfl
@[simp] theorem State.draw_df (s : State) : (s.draw).df = s.df := rfl
@[simp] theorem State.draw_dc (s : State) : (s.draw).dc = s.dc := rfl
@[simp] theorem State.draw_maxd (s : State) : (s.draw).maxd = s.maxd := rfl
@[simp] theorem State.draw_seq (s : State) : (s.draw).seq = s.seq := rfl
@[simp] theorem State.draw_fsel (s : State) : (s.draw).fsel = s.fsel := rfl
@[simp] theorem State.draw_en (s : State) : (s.draw).en = s.en := rfl
@[simp] theorem State.draw_dutySh (s : State) : (s.draw).dutySh = s.dutySh := rfl
@[simp] theorem State.draw_dutyAct (s : State) : (s.draw).dutyAct = s.dutyAct := rfl
@[simp] theorem State.draw_cnt (s : State) : (s.draw).cnt = s.cnt := rfl
@[simp] theorem State.draw_busRead (s : State) : (s.draw).busRead = s.busRead := rfl
@[simp] theorem State.draw_dutyPending (s : State) : (s.draw).dutyPending = s.dutyPending := rfl
@[simp] theorem State.draw_maxDuty (s : State) : (s.draw).maxDuty = s.maxDuty := rfl
@[simp] theorem State.draw_maxDuty1k (s : State) : (s.draw).maxDuty1k = s.maxDuty1k := rfl
@[simp] theorem State.draw_offer (s : State) : (s.draw).offer = s.offer := rfl
@[simp] theorem State.draw_env (s : State) : (s.draw).env = s.env := rfl
@[simp] theorem State.draw_unwrittenRead (s : State) :
    (s.draw).unwrittenRead = s.unwrittenRead := rfl
@[simp] theorem State.draw_agenda (s : State) : (s.draw).agenda = s.agenda := rfl
@[simp] theorem State.draw_drawn (s : State) : (s.draw).drawn = s.drawn + 1 := rfl
@[simp] theorem State.draw_pwmPeriod (s : State) :
    (s.draw).pwmPeriod = s.pwmPeriod := rfl

@[simp] theorem State.timerGap_cb (s : State) : (timerGap s).cb = s.cb := rfl
@[simp] theorem State.timerGap_pct (s : State) : (timerGap s).pct = s.pct := rfl
@[simp] theorem State.timerGap_rd (s : State) : (timerGap s).rd = s.rd := rfl
@[simp] theorem State.timerGap_df (s : State) : (timerGap s).df = s.df := rfl
@[simp] theorem State.timerGap_dc (s : State) : (timerGap s).dc = s.dc := rfl
@[simp] theorem State.timerGap_maxd (s : State) : (timerGap s).maxd = s.maxd := rfl
@[simp] theorem State.timerGap_seq (s : State) : (timerGap s).seq = s.seq := rfl
@[simp] theorem State.timerGap_fsel (s : State) : (timerGap s).fsel = s.fsel := rfl
@[simp] theorem State.timerGap_en (s : State) : (timerGap s).en = s.en := rfl
@[simp] theorem State.timerGap_dutySh (s : State) : (timerGap s).dutySh = s.dutySh := rfl
@[simp] theorem State.timerGap_dutyAct (s : State) :
    (timerGap s).dutyAct = (timerEvents (Config.freeGap s.drawn) s).dutyAct := rfl
@[simp] theorem State.timerGap_cnt (s : State) :
    (timerGap s).cnt = (timerEvents (Config.freeGap s.drawn) s).cnt := rfl
@[simp] theorem State.timerGap_busRead (s : State) : (timerGap s).busRead = s.busRead := rfl
@[simp] theorem State.timerGap_dutyPending (s : State) :
    (timerGap s).dutyPending = (timerEvents (Config.freeGap s.drawn) s).dutyPending := rfl
@[simp] theorem State.timerGap_maxDuty (s : State) : (timerGap s).maxDuty = s.maxDuty := rfl
@[simp] theorem State.timerGap_maxDuty1k (s : State) : (timerGap s).maxDuty1k = s.maxDuty1k := rfl
@[simp] theorem State.timerGap_offer (s : State) : (timerGap s).offer = s.offer := rfl
@[simp] theorem State.timerGap_env (s : State) : (timerGap s).env = s.env := rfl
@[simp] theorem State.timerGap_unwrittenRead (s : State) :
    (timerGap s).unwrittenRead = s.unwrittenRead := rfl
@[simp] theorem State.timerGap_agenda (s : State) : (timerGap s).agenda = s.agenda := rfl
@[simp] theorem State.timerGap_drawn (s : State) : (timerGap s).drawn = s.drawn + 1 := rfl
@[simp] theorem State.timerGap_pwmPeriod (s : State) :
    (timerGap s).pwmPeriod = s.pwmPeriod := rfl

@[simp] theorem State.resetBlock_cb (s : State) : (s.resetBlock).cb = Latch.unwritten 8 := rfl
@[simp] theorem State.resetBlock_pct (s : State) : (s.resetBlock).pct = Latch.unwritten 32 := rfl
@[simp] theorem State.resetBlock_rd (s : State) : (s.resetBlock).rd = Latch.unwritten 32 := rfl
@[simp] theorem State.resetBlock_df (s : State) : (s.resetBlock).df = Latch.unwritten 32 := rfl
@[simp] theorem State.resetBlock_dc (s : State) : (s.resetBlock).dc = Latch.unwritten 16 := rfl
@[simp] theorem State.resetBlock_maxd (s : State) : (s.resetBlock).maxd = Latch.unwritten 16 := rfl
@[simp] theorem State.resetBlock_seq (s : State) : (s.resetBlock).seq = 0#4 := rfl
@[simp] theorem State.resetBlock_fsel (s : State) : (s.resetBlock).fsel = .f1k := rfl
@[simp] theorem State.resetBlock_en (s : State) : (s.resetBlock).en = 0#3 := rfl
@[simp] theorem State.resetBlock_dutySh (s : State) :
    (s.resetBlock).dutySh = ⟨0#16, 0#16, 0#16⟩ := rfl
@[simp] theorem State.resetBlock_dutyAct (s : State) :
    (s.resetBlock).dutyAct = ⟨0#16, 0#16, 0#16⟩ := rfl
@[simp] theorem State.resetBlock_cnt (s : State) : (s.resetBlock).cnt = 0#16 := rfl
@[simp] theorem State.resetBlock_busRead (s : State) : (s.resetBlock).busRead = 0#16 := rfl
@[simp] theorem State.resetBlock_dutyPending (s : State) :
    (s.resetBlock).dutyPending = false := rfl
@[simp] theorem State.resetBlock_maxDuty (s : State) : (s.resetBlock).maxDuty = s.maxDuty := rfl
@[simp] theorem State.resetBlock_maxDuty1k (s : State) :
    (s.resetBlock).maxDuty1k = s.maxDuty1k := rfl
@[simp] theorem State.resetBlock_offer (s : State) : (s.resetBlock).offer = s.offer := rfl
@[simp] theorem State.resetBlock_env (s : State) : (s.resetBlock).env = s.env := rfl
@[simp] theorem State.resetBlock_unwrittenRead (s : State) :
    (s.resetBlock).unwrittenRead = s.unwrittenRead := rfl
@[simp] theorem State.resetBlock_agenda (s : State) : (s.resetBlock).agenda = s.agenda := rfl
@[simp] theorem State.resetBlock_drawn (s : State) : (s.resetBlock).drawn = s.drawn := rfl

@[simp] theorem State.setFsel_pwmPeriod (s : State) (v : Freq) :
    (s.setFsel v).pwmPeriod = match v with
      | .f10k => s.maxDuty.ticks
      | .f1k => s.maxDuty1k.ticks := rfl

end Sys2Proof.Machine
end

