-- ==== Sys2Proof/Laws/Ops.lean ====
section
/-!
SUPPORT. For each shared operation, what it can do, said once: the register space (rule R51), the issue of
a transaction, the duty write, the reading of the curve, and the turns.
-/
namespace Sys2Proof.Machine

/-! ### Sequencing -/

/-- Two actions in a row reach a next state exactly through a state between them. -/
theorem thenDo_eq_next {o : Result} {k : State → Result} {t : State} :
    thenDo o k = .next t ↔ ∃ s, o = .next s ∧ k s = .next t := by
  cases o <;> simp [thenDo]

/-! ### The PWM register space (rule R51) -/

@[simp] theorem memRead_period (s : State) : s.memRead 1#3 = .next (s.setBusRead s.pwmPeriod) := rfl

@[simp] theorem memWrite_fsel (f : Freq) (s : State) : s.memWrite 0#3 f.data = .next (s.setFsel f) := by
  cases f <;> rfl

@[simp] theorem memWrite_duty (ch : Channel) (v : Half) (s : State) :
    s.memWrite ch.dutyAddr v = .next (s.setDutySh ch v) := by
  cases ch <;> rfl

theorem pwmPeriod_f10k {s : State} (h : s.fsel = .f10k) : s.pwmPeriod = s.maxDuty.ticks := by
  rw [State.pwmPeriod, h]

theorem pwmPeriod_f1k {s : State} (h : s.fsel = .f1k) : s.pwmPeriod = s.maxDuty1k.ticks := by
  rw [State.pwmPeriod, h]

theorem memWrite_enable (ch : Channel) (s : State) :
    s.memWrite 2#3 ch.enableData = .next (s.setEn (s.en ||| ch.enableData.extractLsb' 0 3)) := by
  cases ch <;> rfl

/-- All that a duty write can do (rules R114, R115): the fault, or one shadow register. -/
theorem setDuty_cases (ch : Channel) (v : Half) (s : State) :
    (s.pwmPeriod < v ∧ setDuty ch v s = .fault (.dutyOutOfRange ch v s.pwmPeriod)) ∨
      (v ≤ s.pwmPeriod ∧ setDuty ch v s = .next (s.setDutySh ch v)) := by
  unfold setDuty
  by_cases h : s.pwmPeriod < v
  · exact .inl ⟨h, if_pos h⟩
  · refine .inr ⟨BitVec.not_lt.mp h, ?_⟩
    rw [if_neg h, memWrite_duty]

theorem setDuty_in_range (ch : Channel) {v : Half} {s : State} (h : v ≤ s.pwmPeriod) :
    setDuty ch v s = .next (s.setDutySh ch v) := by
  rcases setDuty_cases ch v s with ⟨h2, -⟩ | ⟨-, h2⟩
  · exact absurd h (BitVec.not_le.mpr h2)
  · exact h2

/-! ### The issue of a transaction (rule R74) -/

@[simp] theorem issue_setfreq_f10k (s : State) : issue 0x80001#20 s = .next (s.setFsel .f10k) := rfl

@[simp] theorem issue_maxduty (s : State) :
    issue 0x10000#20 s = .next (s.setBusRead s.pwmPeriod) := rfl

@[simp] theorem issue_enable1 (s : State) : issue 0xA0001#20 s = .next (s.setEn (s.en ||| 1#3)) := rfl

@[simp] theorem issue_enable2 (s : State) : issue 0xA0002#20 s = .next (s.setEn (s.en ||| 2#3)) := rfl

@[simp] theorem issue_enable3 (s : State) : issue 0xA0004#20 s = .next (s.setEn (s.en ||| 4#3)) := rfl

theorem decode_setduty2 (v : Half) :
    decode (.transaction (0xE#4 ++ v)) = .instr (.setduty2 v) := by
  have h : (0xE#4 ++ v : Tx) = Tx.mk true 6#3 v := rfl
  simp [decode, h, decodeTransaction_mk]

theorem decode_setduty3 (v : Half) :
    decode (.transaction (0xF#4 ++ v)) = .instr (.setduty3 v) := by
  have h : (0xF#4 ++ v : Tx) = Tx.mk true 7#3 v := rfl
  simp [decode, h, decodeTransaction_mk]

@[simp] theorem issue_setduty2 (v : Half) (s : State) : issue (0xE#4 ++ v) s = setDuty .ch2 v s := by
  simp only [issue, decode_setduty2, execSetduty2]

@[simp] theorem issue_setduty3 (v : Half) (s : State) : issue (0xF#4 ++ v) s = setDuty .ch3 v s := by
  simp only [issue, decode_setduty3, execSetduty3]

/-- All that a step writing `DC` to channel 2 can do (rules R136, R140). -/
theorem writeDutyStep_ch2 (c : StepCode) (s : State) (h : s.dc.val ≤ s.pwmPeriod) :
    writeDutyStep 0xE#4 c s =
      .next (((s.noteRead .dc s.dc.written).setDutySh .ch2 s.dc.val).setSeq c) := by
  simp only [writeDutyStep, issueStep, issue_setduty2]
  rw [setDuty_in_range .ch2 (by simpa using h), thenDo_next]

/-- All that a step writing `DC` to channel 3 can do (rules R136, R140). -/
theorem writeDutyStep_ch3 (c : StepCode) (s : State) (h : s.dc.val ≤ s.pwmPeriod) :
    writeDutyStep 0xF#4 c s =
      .next (((s.noteRead .dc s.dc.written).setDutySh .ch3 s.dc.val).setSeq c) := by
  simp only [writeDutyStep, issueStep, issue_setduty3]
  rw [setDuty_in_range .ch3 (by simpa using h), thenDo_next]

@[simp] theorem noteRead_of_written (x : DataReg) (s : State) : s.noteRead x true = s := rfl

/-! ### The curve -/

/-- All that the common end of S_DEF and S_MAP does (rules R135, R138). -/
theorem mapReading_eq (s : State) :
    mapReading s =
      ((s.writeDf (qmap s.rd.val)).noteRead .maxd s.maxd.written).writeDc
        (f2d (qmap s.rd.val) s.maxd.val) := by
  simp only [mapReading, curveInput_eq, State.writeDf_df, State.writeDf_maxd, State.noteRead_df,
    State.noteRead_maxd, Latch.of_val]

/-- S_DEF over the writes of the state (rule R135). -/
theorem execSDef_eq (s : State) :
    execSDef s =
      .next (((((s.writeRd kRdef).writeDf (qmap kRdef)).noteRead .maxd s.maxd.written).writeDc
        (mapD s.maxd.val)).setSeq 6#4) := by
  simp only [execSDef, mapReading_eq, State.writeRd_rd, State.writeRd_maxd, Latch.of_val, mapD_eq]

/-- S_MAP over the writes of the state (rule R138). -/
theorem execSMap_eq (s : State) :
    execSMap s =
      .next (((((((s.noteRead .cb s.cb.written).writePct (b2p s.cb.val)).writeRd
        (p2r (b2p s.cb.val))).writeDf (qmap (p2r (b2p s.cb.val)))).noteRead .maxd s.maxd.written).writeDc
          (mapB s.cb.val s.maxd.val)).setSeq 10#4) := rfl

/-! ### The sequencer's move -/

/-- The step that `SEQ` names is the decoded instruction executed (rules R76, R130). -/
theorem seqStep_eq_runWord (s : State) : seqStep s = runWord (.stepCode s.seq) s := by
  obtain ⟨n, hn⟩ : ∃ n, s.seq.toNat = n := ⟨_, rfl⟩
  have hlt : n < 16 := hn ▸ s.seq.isLt
  unfold seqStep runWord
  simp only [decode, decodeStep, hn]
  interval_cases n <;> rfl

/-- Each code's step (rules R76, R131). -/
theorem seqStep_of_code {s : State} {n : Nat} (h : s.seq = BitVec.ofNat 4 n) :
    seqStep s = runWord (.stepCode (BitVec.ofNat 4 n)) s := by
  rw [seqStep_eq_runWord, h]

/-! ### Turns -/

/-- The agenda's head is the turn that a step performs (rule R60 item 4). -/
theorem step_cons {s : State} {t : Turn} {rest : List Turn} (h : s.agenda = t :: rest) :
    runTurn s.nextTurn s.afterTurn = runTurn t (s.setAgenda rest) := by
  simp only [State.nextTurn, State.afterTurn, h]

/-- A run that begins with this step. -/
theorem run_of_step (M : Host.Core) {s t : M.State} {n : Nat} (h : M.step s = .next t) :
    M.run (n + 1) s = M.run n t := by
  simp only [Host.Core.run, h]

end Sys2Proof.Machine
end

