-- ==== Sys2Proof/Laws/PerInstr.lean ====
section
/-!
SUPPORT. Statements about every instruction, one lemma per constructor: the word of an instruction is
never reserved (rules R78, R79, R85).
-/
namespace Sys2Proof.Laws.EncodeLegal

/-- The word that encodes `i` is none of the reserved words of rules R25 and R79. -/
def Statement (i : Instr) : Prop := (encode i).wf = true

theorem cmd (b : Byte) : Statement (.cmd b) := rfl
theorem setfreq (f : Freq) : Statement (.setfreq f) := by
  cases f <;> rfl
theorem maxduty : Statement .maxduty := rfl
theorem enable1 : Statement .enable1 := rfl
theorem enable2 : Statement .enable2 := rfl
theorem enable3 : Statement .enable3 := rfl
theorem setduty1 (v : Half) : Statement (.setduty1 v) := Tx.wf_duty _ v (by decide)
theorem setduty2 (v : Half) : Statement (.setduty2 v) := Tx.wf_duty _ v (by decide)
theorem setduty3 (v : Half) : Statement (.setduty3 v) := Tx.wf_duty _ v (by decide)
theorem sFreq : Statement .sFreq := rfl
theorem sMaxq : Statement .sMaxq := rfl
theorem sEn1 : Statement .sEn1 := rfl
theorem sEn2 : Statement .sEn2 := rfl
theorem sEn3 : Statement .sEn3 := rfl
theorem sDef : Statement .sDef := rfl
theorem sPr2 : Statement .sPr2 := rfl
theorem sPr3 : Statement .sPr3 := rfl
theorem sWait : Statement .sWait := rfl
theorem sMap : Statement .sMap := rfl
theorem sWr2 : Statement .sWr2 := rfl
theorem sWr3 : Statement .sWr3 := rfl

end Sys2Proof.Laws.EncodeLegal
end

