-- ==== Sys2Proof/Laws/Timer.lean ====
section
/-!
SUPPORT. What timer events can do to the state (rules R118, R119, R120): only `CNT` and `DUTY_ACT`, and the
active duties are either what they were or the shadows.
-/
namespace Sys2Proof.Machine

/-- All that one event of the timer can do: a count, or a period boundary. -/
theorem timerEvent_cases (s : State) (e : TimerEvent) :
    timerEvent s e = pbound s ∨
      (e = .tick ∧ s.cnt.toNat + 1 < s.pwmPeriod.toNat ∧
        timerEvent s e = s.setTimer (s.cnt + 1#16) s.dutyAct s.dutyPending) := by
  cases e
  · by_cases h : s.pwmPeriod.toNat ≤ s.cnt.toNat + 1
    · exact .inl (if_pos h)
    · exact .inr ⟨rfl, by omega, if_neg h⟩
  · exact .inl rfl

/-- What a run of timer events leaves in `DUTY_ACT` and in the record of R16: both as they were, or the
shadows loaded. -/
def TimerLeft (s : State) (d : Duties) (p : Bool) : Prop :=
  (d = s.dutyAct ∧ p = s.dutyPending) ∨ (d = s.dutySh ∧ p = false)

/-- An event is a write of the timer's state and of nothing else. -/
theorem timerEvent_eq_setTimer (s : State) (e : TimerEvent) :
    ∃ c d p, timerEvent s e = s.setTimer c d p ∧ TimerLeft s d p := by
  rcases timerEvent_cases s e with h | ⟨-, -, h⟩
  · exact ⟨_, _, _, h, .inr ⟨rfl, rfl⟩⟩
  · exact ⟨_, _, _, h, .inl ⟨rfl, rfl⟩⟩

theorem timerEvents_eq_setTimer (es : List TimerEvent) (s : State) :
    ∃ c d p, timerEvents es s = s.setTimer c d p ∧ TimerLeft s d p := by
  induction es generalizing s with
  | nil => exact ⟨s.cnt, s.dutyAct, s.dutyPending, rfl, .inl ⟨rfl, rfl⟩⟩
  | cons e es ih =>
    obtain ⟨c1, d1, p1, h1, hd1⟩ := timerEvent_eq_setTimer s e
    obtain ⟨c2, d2, p2, h2, hd2⟩ := ih (timerEvent s e)
    refine ⟨c2, d2, p2, ?_, ?_⟩
    · show timerEvents es (timerEvent s e) = _
      rw [h2, h1]; rfl
    · rw [h1] at hd2
      rcases hd2 with ⟨hd, hp⟩ | hd
      · simp only [State.setTimer_dutyAct, State.setTimer_dutyPending] at hd hp
        rw [hd, hp]; exact hd1
      · exact .inr hd

/-- All that the events inside a composite operation can do to the state. -/
theorem timerGap_eq_setTimer (s : State) :
    ∃ c d p, timerGap s = (s.setTimer c d p).draw ∧ TimerLeft s d p := by
  obtain ⟨c, d, p, h, hl⟩ := timerEvents_eq_setTimer (Config.freeGap s.drawn) s
  exact ⟨c, d, p, by rw [timerGap, h]; rfl, hl⟩

end Sys2Proof.Machine
end

