-- ==== Sys2Proof/Tests/Slice0.lean ====
section
/-!
SUPPORT. The model's own tests. Expected results are the vectors of 95_test_vectors.md (section named at
each test) or the worked encodings of rule R84. The last part names, for each obligation with hypotheses, a
concrete state and operands that meet them together.
-/
namespace Sys2Proof.Tests
open Sys2Proof Sys2Proof.Machine

/-! ### Small states -/

def p1000 : Period := ⟨1000#16, by decide⟩
def p10000 : Period := ⟨10000#16, by decide⟩
def p1 : Period := ⟨1#16, by decide⟩

/-- After reset, with `MAXDUTY` = 1000 and `MAXDUTY_1K` = 10000 (95 section 2.7). -/
def base : State :=
  { State.reset with maxDuty := p1000, maxDuty1k := p10000, env := { Env.start with led := .idle } }

/-- The end state of program P1 (95 section 3) at 10 kHz, before its PBOUND. -/
def ready : State :=
  { base with seq := 8#4, fsel := .f10k, en := 7#3, maxd := ⟨1000#16, true⟩, dc := ⟨636#16, true⟩,
              rd := ⟨0x43160000#32, true⟩, df := ⟨0x441F361C#32, true⟩,
              dutySh := ⟨0#16, 636#16, 636#16⟩, dutyPending := true }

/-- Whether the outcome is a next state with the property. -/
def endsIn (o : Result) (p : State → Bool) : Bool :=
  match o with
  | .next s => p s
  | _ => false

/-- Whether the outcome is this fault. -/
def faultsWith (o : Result) (f : Fault) : Bool :=
  match o with
  | .fault g => g = f
  | _ => false

/-- Whether the outcome is this refusal. -/
def refusesWith (o : Result) (f : Refusal) : Bool :=
  match o with
  | .refused g => g = f
  | _ => false

/-! ### Well-formedness: an ill-formed term for each check -/

theorem test_wf_reserved_word : (CodeWord.transaction 0xB0000#20).wf = false := by decide
theorem test_wf_reserved_word_turn : (Turn.transaction 0xA0003#20).wf = false := by decide
theorem test_wf_reserved_code : (CodeWord.stepCode 12#4).wf = false := by decide
theorem test_wf_parameter_zero : (Turn.powerOn 0 1000).wf = false := by decide
theorem test_wf_parameter_large : (Turn.powerOn 1000 65536).wf = false := by decide
theorem test_wf_legal : (Turn.powerOn 1 65535).wf = true ∧ (CodeWord.transaction 0xFFFFF#20).wf = true := by
  decide

/-! ### Decoding: words written out from rules R71, R74, R76 (95 section 2.6) -/

theorem test_decode_cmd : decode (.command 0b10000000#8) = .instr (.cmd 128#8) := by decide
theorem test_decode_setfreq_1k :
    decode (.transaction 0b1_000_0000000000000000#20) = .instr (.setfreq .f1k) := by decide
theorem test_decode_setfreq_10k :
    decode (.transaction 0b1_000_0000000000000001#20) = .instr (.setfreq .f10k) := by decide
theorem test_decode_maxduty :
    decode (.transaction 0b0_001_0000000000000000#20) = .instr .maxduty := by decide
theorem test_decode_enable1 :
    decode (.transaction 0b1_010_0000000000000001#20) = .instr .enable1 := by decide
theorem test_decode_enable2 :
    decode (.transaction 0b1_010_0000000000000010#20) = .instr .enable2 := by decide
theorem test_decode_enable3 :
    decode (.transaction 0b1_010_0000000000000100#20) = .instr .enable3 := by decide
theorem test_decode_setduty1 :
    decode (.transaction 0b1_101_0000000000000101#20) = .instr (.setduty1 5#16) := by decide
theorem test_decode_setduty2 :
    decode (.transaction 0b1_110_0000001001111100#20) = .instr (.setduty2 636#16) := by decide
theorem test_decode_setduty3 :
    decode (.transaction 0b1_111_1111111111111111#20) = .instr (.setduty3 65535#16) := by decide
theorem test_decode_steps_low :
    (List.range 6).map (fun n => decode (.stepCode (BitVec.ofNat 4 n))) =
      [.instr .sFreq, .instr .sMaxq, .instr .sEn1, .instr .sEn2, .instr .sEn3, .instr .sDef] := by
  decide
theorem test_decode_steps_high :
    [0b0110#4, 0b0111#4, 0b1000#4, 0b1001#4, 0b1010#4, 0b1011#4].map (fun c => decode (.stepCode c)) =
      [.instr .sPr2, .instr .sPr3, .instr .sWait, .instr .sMap, .instr .sWr2, .instr .sWr3] := by
  decide
theorem test_decode_reserved_codes :
    [12#4, 13#4, 14#4, 15#4].map (fun c => decode (.stepCode c)) =
      [.reservedSeq 12#4, .reservedSeq 13#4, .reservedSeq 14#4, .reservedSeq 15#4] := by decide
theorem test_decode_reserved_words :
    ([0x80002#20, 0x00000#20, 0x10001#20, 0x90000#20, 0xA0000#20, 0xA0003#20, 0xA0008#20, 0x20000#20,
      0xB0000#20, 0xC1234#20, 0x6027C#20].all fun w =>
        decode (.transaction w) = .reservedTransaction w && Tx.reserved w) = true := by decide
theorem test_table_words :
    decodeTableWord 24 0xE0000 = some (.setduty2 0#16) ∧ decodeTableWord 8 11 = some .sWr3 ∧
      decodeTableWord 4 11 = some .sWr3 ∧ decodeTableWord 8 0x80 = some (.cmd 128#8) ∧
      decodeTableWord 24 0xB0000 = none := by decide

/-! ### The mapper (95 sections 2.1 to 2.5) -/

theorem test_map_trace_128 :
    b2p 128#8 = 0x4248C8CA#32 ∧ p2r 0x4248C8CA#32 = 0x43169698#32 ∧
      qmap 0x43169698#32 = 0x441F9382#32 := by decide +kernel
theorem test_map_trace_97 :
    b2p 97#8 = 0x42182828#32 ∧ p2r 0x42182828#32 = 0x42E43C3C#32 ∧
      qmap 0x42E43C3C#32 = 0x44083FAE#32 := by decide +kernel
theorem test_qmap_negative :
    qmap 0xC2820000#32 = 0x40541180#32 ∧ qmap 0xC2840000#32 = 0xBDCC1800#32 ∧
      qmap 0xC2C80000#32 = 0xC2ED7065#32 := by decide +kernel
theorem test_qmap_large :
    qmap 0x44350000#32 = 0x44A8BFD2#32 ∧ qmap 0x44BD6000#32 = 0x3F106D80#32 ∧
      qmap 0x44BD8000#32 = 0xC03690A0#32 ∧ qmap 0xFF800000#32 = 0xFF800000#32 := by decide +kernel
theorem test_f2d :
    f2d 0x441F361C#32 635#16 = 635#16 ∧ f2d 0x3F7FBE77#32 1000#16 = 0#16 ∧
      f2d 0xBF800000#32 1000#16 = 0#16 ∧ f2d 0x447A3FF0#32 1000#16 = 1000#16 ∧
      f2d 0x47800000#32 65535#16 = 65535#16 ∧ f2d 0x7149F2CA#32 1000#16 = 1000#16 ∧
      f2d 0x7F800000#32 1000#16 = 1000#16 ∧ f2d 0xFF800000#32 1000#16 = 0#16 ∧
      f2d 0xFFC00001#32 1000#16 = 0#16 := by decide +kernel
theorem test_map_bounds :
    mapD 1000#16 = 636#16 ∧ mapD 500#16 = 500#16 ∧ mapB 187#8 800#16 = 800#16 ∧
      mapB 188#8 800#16 = 800#16 ∧ mapB 255#8 959#16 = 959#16 ∧ mapB 0#8 65535#16 = 215#16 := by
  decide +kernel

/-! ### The controller and the timer (95 section 2.7, rows V1 to V24) -/

theorem test_setfreq_v1 :
    endsIn (exec (.setfreq .f10k) base) (fun t => t.fsel = .f10k && t.pwmPeriod = 1000#16) = true := by
  decide
theorem test_setfreq_v3 :
    endsIn (exec (.setfreq .f1k) ready) (fun t => t.fsel = .f1k && t.pwmPeriod = 10000#16) = true := by
  decide
theorem test_maxduty_v4 : endsIn (exec .maxduty base) (fun t => t.busRead = 10000#16) = true := by decide
theorem test_maxduty_v5 : endsIn (exec .maxduty ready) (fun t => t.busRead = 1000#16) = true := by decide
theorem test_enable1_v6 : endsIn (exec .enable1 base) (fun t => t.en = 0b001#3) = true := by decide
theorem test_enable2 : endsIn (exec .enable2 base) (fun t => t.en = 0b010#3) = true := by decide
theorem test_enable3_v7 :
    endsIn (exec .enable3 { base with en := 0b001#3 }) (fun t => t.en = 0b101#3) = true := by decide
theorem test_setduty1_v14 :
    endsIn (exec (.setduty1 5#16) ready) (fun t => t.dutySh = ⟨5#16, 636#16, 636#16⟩) = true := by decide
theorem test_setduty2_v9 :
    endsIn (exec (.setduty2 636#16) { base with fsel := .f10k })
      (fun t => t.dutySh.ch2 = 636#16 && t.dutyAct.ch2 = 0#16) = true := by decide
theorem test_setduty3_v11 :
    endsIn (exec (.setduty3 1000#16) ready) (fun t => t.dutySh.ch3 = 1000#16) = true := by decide
theorem test_setduty3_v12 :
    faultsWith (exec (.setduty3 1001#16) ready) (.dutyOutOfRange .ch3 1001#16 1000#16) = true := by decide
theorem test_pbound_v10 : (pbound ready).dutyAct = ⟨0#16, 636#16, 636#16⟩ := by decide
theorem test_tick_v21 : (tick { ready with cnt := 998#16 }).cnt = 999#16 := by decide
theorem test_tick_v22 :
    (tick { ready with cnt := 999#16 }).cnt = 0#16 ∧
      (tick { ready with cnt := 999#16 }).dutyAct = ⟨0#16, 636#16, 636#16⟩ := by decide
theorem test_tick_v23 : (tick { ready with cnt := 5000#16 }).cnt = 0#16 := by decide
theorem test_tick_v24 : (tick { ready with maxDuty := p1 }).cnt = 0#16 := by decide
theorem test_out_v16 : State.pwmOut .ch2 { base with dutyAct := ⟨0#16, 636#16, 0#16⟩ } = false := by decide
theorem test_out_v18 :
    State.pwmOut .ch1 { pbound ready with cnt := 635#16 } = false ∧
      State.pwmOut .ch2 { pbound ready with cnt := 635#16 } = true := by decide
theorem test_out_v19 : State.pwmOut .ch3 { pbound ready with cnt := 636#16 } = false := by decide
theorem test_out_v20 :
    State.pwmOut .ch2 { ready with cnt := 999#16, dutyAct := ⟨0#16, 1000#16, 0#16⟩ } = true := by decide

/-! ### The sequencer (95 section 2.8) -/

theorem test_sFreq : endsIn (exec .sFreq base) (fun t => t.fsel = .f10k && t.seq = 1#4) = true := by decide
theorem test_sMaxq :
    endsIn (exec .sMaxq { base with fsel := .f10k }) (fun t => t.maxd = ⟨1000#16, true⟩ && t.seq = 2#4) =
      true := by decide
theorem test_sEn1 : endsIn (exec .sEn1 base) (fun t => t.en = 0b001#3 && t.seq = 3#4) = true := by decide
theorem test_sEn2 :
    endsIn (exec .sEn2 { base with en := 1#3 }) (fun t => t.en = 0b011#3 && t.seq = 4#4) = true := by decide
theorem test_sEn3 :
    endsIn (exec .sEn3 { base with en := 3#3 }) (fun t => t.en = 0b111#3 && t.seq = 5#4) = true := by decide
theorem test_sDef :
    endsIn (exec .sDef { base with maxd := ⟨1000#16, true⟩ }) (fun t =>
      t.rd.val = 0x43160000#32 && t.df.val = 0x441F361C#32 && t.dc.val = 636#16 && t.seq = 6#4) =
      true := by decide +kernel
theorem test_sPr2 :
    endsIn (exec .sPr2 { ready with dutySh := ⟨0#16, 0#16, 0#16⟩ })
      (fun t => t.dutySh = ⟨0#16, 636#16, 0#16⟩ && t.seq = 7#4) = true := by decide
theorem test_sPr3 :
    endsIn (exec .sPr3 { ready with dutySh := ⟨0#16, 0#16, 0#16⟩ })
      (fun t => t.dutySh = ⟨0#16, 0#16, 636#16⟩ && t.seq = 8#4) = true := by decide
theorem test_sWait_idle : endsIn (exec .sWait ready) (fun t => t = ready) = true := by decide
theorem test_sWait_byte :
    endsIn (exec .sWait { ready with offer := some 0x80#8 })
      (fun t => t.cb = ⟨128#8, true⟩ && t.seq = 9#4) = true := by decide
theorem test_sMap :
    endsIn (exec .sMap { ready with cb := ⟨128#8, true⟩ }) (fun t =>
      t.pct.val = 0x4248C8CA#32 && t.rd.val = 0x43169698#32 && t.df.val = 0x441F9382#32 &&
        t.dc.val = 638#16 && t.seq = 10#4 && t.unwrittenRead = none) = true := by decide +kernel
theorem test_sMap_unwritten :
    endsIn (exec .sMap ready) (fun t => t.unwrittenRead = some .cb) = true := by decide +kernel
theorem test_sWr2 :
    endsIn (exec .sWr2 { ready with dc := ⟨638#16, true⟩ })
      (fun t => t.dutySh = ⟨0#16, 638#16, 636#16⟩ && t.seq = 11#4) = true := by decide
theorem test_sWr3 :
    endsIn (exec .sWr3 { ready with dc := ⟨638#16, true⟩ })
      (fun t => t.dutySh = ⟨0#16, 636#16, 638#16⟩ && t.seq = 8#4) = true := by decide
theorem test_reserved_seq :
    refusesWith (step { ready with seq := 12#4, agenda := [.move .sequencer] }) (.reservedSeq 12#4) =
      true := by decide

/-! ### CMD, reset, the placed word -/

/-- Program P2: `CMD 0xFF` with MAXDUTY = 1000. -/
theorem test_cmd_ff :
    endsIn (exec (.cmd 0xFF#8) ready) (fun t =>
      t.seq = 8#4 && t.cb.val = 255#8 && t.df.val = 0x44702568#32 && t.dc.val = 960#16 &&
        t.dutySh = ⟨0#16, 960#16, 960#16⟩ && t.offer = none) = true := by decide +kernel
/-- 95 section 2.9, last row: a command waits for INIT. -/
theorem test_cmd_during_init :
    endsIn (exec (.cmd 0x40#8) base) (fun t =>
      t.seq = 8#4 && t.cb.val = 64#8 && t.dutySh = ⟨0#16, 439#16, 439#16⟩ && t.en = 7#3) = true := by
  decide +kernel
/-- 95 section 2.9, second row. -/
theorem test_reset_between_writes :
    endsIn (step { ready with seq := 11#4, dutySh := ⟨0#16, 638#16, 636#16⟩, agenda := [.move .rst] })
      (fun t => t = { base with env := ready.env }) = true := by decide
theorem test_placed_word_runs :
    endsIn (step (State.reset.withFetchWord 24 0x80001)) (fun t => t.fsel = .f10k) = true ∧
      endsIn (step (State.reset.withFetchWord 24 0xE0000)) (fun t => t.dutySh.ch2 = 0#16) = true ∧
      endsIn (step (State.reset.withFetchWord 8 8)) (fun t => t.seq = 8#4) = true := by decide
theorem test_placed_command_runs :
    endsIn (step (State.reset.withFetchWord 8 0x80)) (fun t => t.cb = ⟨128#8, true⟩ && t.seq = 8#4) =
      true := by decide +kernel

/-! ### The command loop (program P6) -/

def event : LoopInput := .received 0x40#8 [0x80#8, 0xFF#8]

/-- The loop in its echo phase with the three bytes of P6. -/
def echoing : State :=
  { ready with env := { phase := .echo, buf := [0x40#8, 0x80#8, 0xFF#8], off := 1, echoed := [0x40#8],
                        toOffer := none, led := .active } }

theorem test_loop_offers_byte_zero :
    ((ready.loopTurn event).loopTurn .nothing).offer = some 0x40#8 := by decide
theorem test_echo_partial_write :
    (echoing.loopTurn (.wrote 0)) = echoing ∧
      (echoing.loopTurn (.wrote 2)).env.echoed = [0x40#8, 0x80#8, 0xFF#8] ∧
      (echoing.loopTurn (.wrote 2)).env.phase = .idle := by decide

/-! ### Witnesses: states and operands that meet the obligations' hypotheses -/

/-- RstResetsTheBlockAtOnce, TickCountsOrIsAPeriodBoundary, PboundLoadsAllThreeChannels. -/
theorem witness_agenda_heads :
    { ready with agenda := [.move .rst] }.agenda = .move .rst :: [] ∧
      { ready with agenda := [.move (.timer .tick)], cnt := 999#16 }.agenda =
        .move (.timer .tick) :: [] ∧
      { ready with agenda := [.move (.timer .tick)], cnt := 999#16 }.pwmPeriod.toNat ≤ 999 + 1 ∧
      998 + 1 < { ready with cnt := 998#16 }.pwmPeriod.toNat ∧
      { ready with agenda := [.move (.timer .pbound)] }.agenda = .move (.timer .pbound) :: [] := by decide

/-- PowerOnTakesParametersInRangeOnly: a state for each clause, at the ends of the range. -/
theorem witness_powerOn :
    endsIn (step { ready with agenda := [.powerOn 1 65535] })
        (fun t => t.maxDuty.ticks = 1#16 && t.maxDuty1k.ticks = 65535#16 && t.seq = 0#4) = true ∧
      refusesWith (step { ready with agenda := [.powerOn 0 1] }) (.badParameter 0) = true ∧
      refusesWith (step { ready with agenda := [.powerOn 65536 1] }) (.badParameter 65536) = true ∧
      refusesWith (step { ready with agenda := [.powerOn 1 0] }) (.badParameter 0) = true ∧
      refusesWith (step { ready with agenda := [.powerOn 1 65536] }) (.badParameter 65536) = true := by
  decide

/-- EveryDecodedWordIsTheEncoding, StepRunsTheDecodedInstruction, EmptyAgendaTakesTheFreeMove. -/
theorem witness_decoded :
    decode (.stepCode { ready with agenda := [.move .sequencer] }.seq) = .instr .sWait ∧
      { ready with agenda := [.transaction 0x10000#20] }.agenda = .transaction 0x10000#20 :: [] ∧
      decode (.transaction 0x10000#20) = .instr .maxduty ∧
      { ready with agenda := [.command 7#8] }.agenda = .command 7#8 :: [] ∧
      decode (.command 7#8) = .instr (.cmd 7#8) ∧ ready.agenda = [] := by decide

/-- ReservedTransactionWordsAreTheListedOnes, StepsIssueTheirTransactionWord. -/
theorem witness_words :
    Tx.reserved 0xB0000#20 = true ∧ { ready with seq := 6#4 }.txWord = some 0xE027C#20 ∧
      { ready with seq := 11#4 }.txWord = some 0xF027C#20 ∧ base.txWord = some 0x80001#20 ∧
      { ready with seq := 1#4 }.txWord = some 0x10000#20 := by decide

/-- FloatOperationsRoundToNearestEven: finite operands with finite results, a sum whose rounding is a tie. -/
theorem witness_float :
    F32.isFinite 0x4B800000#32 = true ∧ F32.isFinite 0x3F800000#32 = true ∧
      fadd 0x4B800000#32 0x3F800000#32 = 0x4B800000#32 ∧
      F32.isFinite (fmul 0x4B800000#32 0x3F800001#32) = true ∧ F32.isZero 0x3F800000#32 = false ∧
      F32.isFinite (fdiv 0x3F800000#32 0x40400000#32) = true := by decide +kernel

/-- QmapCornerCases, F2dTruncatesThenClamps: a NaN, a reading whose square overflows, finite values of
both signs. -/
theorem witness_corner_readings :
    F32.isNaN 0xFFC00001#32 = true ∧ F32.isFinite 0x60000000#32 = true ∧
      fmul 0x60000000#32 0x60000000#32 = 0x7F800000#32 ∧ F32.isFinite 0xBF000000#32 = true ∧
      F32.units 0xBF000000#32 < 0 ∧ F32.isFinite 0x441F361C#32 = true ∧
      0 ≤ F32.units 0x441F361C#32 := by decide +kernel

/-- UnclampedDutyIncreasesFrom215To960, DefaultDutyIs636Clamped. -/
theorem witness_bounds : (960#16 : Half) ≤ 960#16 ∧ (0#8 : Byte) < 255#8 := by decide

/-- MaxdutyReturnsThePeriod, StepSMaxqLatchesThePeriod. -/
theorem witness_frequencies : ready.fsel = .f10k ∧ base.fsel = .f1k := by decide

/-- SetdutyWritesItsShadowOrFaults, OverwrittenDutyNeverBecomesActive, WritesOfTheHeldValueChangeNothing,
DutyStepsWriteTheShadowOfTheirChannel, DutyStepsFaultOutOfRange, at the boundary. -/
theorem witness_duties :
    (1000#16 : Half) ≤ ready.pwmPeriod ∧ ready.pwmPeriod < (1001#16 : Half) ∧
      ready.enabled .ch1 = true ∧ ready.enabled .ch2 = true ∧ ready.enabled .ch3 = true ∧
      ready.dutySh.ch1 ≤ ready.pwmPeriod ∧ ready.dutySh.ch2 ≤ ready.pwmPeriod ∧
      ready.dutySh.ch3 ≤ ready.pwmPeriod ∧ ready.dc.val ≤ ready.pwmPeriod ∧
      { ready with dc := ⟨1001#16, true⟩ }.pwmPeriod < { ready with dc := ⟨1001#16, true⟩ }.dc.val := by
  decide

/-- AWriteLeavesEveryOtherRegister, WhatNoInstructionChanges, OnlySMaxqWritesMaxd: each transaction answers
a next state, with an address it does not write. -/
theorem witness_writes_complete :
    exec (.setfreq .f1k) ready = .next { ready with fsel := .f1k } ∧
      exec .maxduty ready = .next { ready with busRead := 1000#16 } ∧
      exec .enable1 base = .next { base with en := 1#3 } ∧
      exec (.setduty1 5#16) ready = .next { ready with dutySh := ⟨5#16, 636#16, 636#16⟩ } ∧
      (2#3 : RegAddr) ≠ 0#3 ∧ (2#3 : RegAddr) ≠ 1#3 ∧ (7#3 : RegAddr) ≠ 5#3 :=
  ⟨rfl, rfl, rfl, rfl, by decide, by decide, by decide⟩

/-- OnePeriodIsActiveForItsDuty: count 0, the last tick of the period. -/
theorem witness_period : ready.cnt = 0#16 ∧ 999 < ready.pwmPeriod.toNat := by decide

/-- StepSWaitTakesTheOfferedByte, AnOfferedByteIsTakenOnceAndNeverDropped. -/
theorem witness_offer :
    { ready with offer := some 0xFF#8 }.offer = some 0xFF#8 ∧ ready.offer = none ∧
      endsIn (runMove .sequencer { ready with offer := some 0xFF#8 }) (fun t => t.offer = none) = true ∧
      endsIn (runMove (.offer 1#8) { ready with offer := some 0xFF#8 })
        (fun t => t.offer = some 0xFF#8) = true := by decide

/-- SeqAdvancesAsTheMicroprogramSays: a step of each clause that answers a next state. -/
theorem witness_seq :
    endsIn (seqStep base) (fun t => t.seq = 1#4) = true ∧ endsIn (seqStep ready) (fun t => t.seq = 8#4) = true ∧
      endsIn (seqStep { ready with seq := 10#4 }) (fun t => t.seq = 11#4) = true ∧
      endsIn (seqStep { ready with seq := 11#4 }) (fun t => t.seq = 8#4) = true ∧
      12 ≤ { ready with seq := 12#4, agenda := [.move .sequencer] }.seq.toNat := by decide

/-- OverwrittenDutyNeverBecomesActive: turns between the two writes in which no boundary falls. -/
theorem witness_noBoundary :
    (5#16 : Half) ≤ ready.pwmPeriod ∧
      NoBoundary [.move (.timer .tick), .transaction 0xF0001#20, .move .sequencer]
        (ready.setDutySh .ch2 5#16) := by
  refine ⟨by decide, by decide, fun t h => ?_⟩
  cases h
  refine ⟨by decide, fun t h => ?_⟩
  cases h
  exact ⟨by decide, fun _ _ => trivial⟩

/-- CmdWritesBothChannels, InitLeavesThePrimedBlock, InitAndCmdTransactionTraces. -/
theorem witness_composites :
    ready.waiting = true ∧ ready.maxd.val ≤ ready.pwmPeriod ∧ base.seq = 0#4 ∧
      base.dutySh = ⟨0#16, 0#16, 0#16⟩ ∧ base.dutyAct = ⟨0#16, 0#16, 0#16⟩ ∧
      { ready with offer := some 3#8 }.offer = some 3#8 ∧ ready.seq = 8#4 := by decide

/-- EveryStepCompletesAndKeepsTheBlockInvariant, QuiescentInThreeOrEightStepsThenSettled: the primed block. -/
theorem witness_blockInv_ready : BlockInv ready := by constructor <;> decide

/-- QuiescentInThreeOrEightStepsThenSettled: the other premises, in the same state. -/
theorem witness_quiet : BlockInv ready ∧ ready.offer = none ∧ 8 ≤ ready.seq.toNat :=
  ⟨witness_blockInv_ready, by decide, by decide⟩

/-- The same, after the first write of a pair, with turns of every agent to come. -/
theorem witness_blockInv_pair :
    BlockInv { ready with seq := 11#4, dc := ⟨638#16, true⟩, dutySh := ⟨0#16, 638#16, 636#16⟩,
                          agenda := [.move .sequencer, .move (.timer .pbound), .command 0#8, .init,
                                     .move .rst, .powerOn 1 65535] } := by
  constructor <;> decide

/-- ChannelSynchronyOnEveryRun: an agenda of a run of the block. -/
theorem witness_turns :
    ∀ u ∈ [Turn.move .sequencer, .move (.offer 9#8), .command 255#8, .init, .powerOn 800 8000],
      Turn.ofBlock u = true := by decide

/-- NoInstructionSeesTheTimer: two states that differ in the timer. -/
theorem witness_sameButTimer : SameButTimer ready { ready with cnt := 5#16, dutyAct := ⟨0#16, 1#16, 2#16⟩ } :=
  ⟨5#16, ⟨0#16, 1#16, 2#16⟩, true, rfl⟩

/-- BoundaryInsideThePairSplitsTheChannels. -/
theorem witness_pair :
    { ready with seq := 10#4, dc := ⟨638#16, true⟩ }.seq = 10#4 ∧
      { ready with seq := 10#4, dc := ⟨638#16, true⟩ }.dc.val ≤
        { ready with seq := 10#4, dc := ⟨638#16, true⟩ }.pwmPeriod ∧
      { ready with seq := 6#4 }.seq = 6#4 ∧ { ready with seq := 6#4 }.dc.val ≤ ready.pwmPeriod := by decide

/-- OnlySMaxqWritesMaxd: a command that completes past S_MAXQ, and another instruction. -/
theorem witness_maxd_unwritten :
    endsIn (exec (.cmd 0#8) ready) (fun t => t.maxd = ready.maxd) = true ∧ 2 ≤ ready.seq.toNat ∧
      Instr.cmd 0#8 ≠ .sMaxq ∧ exec .enable1 base = .next { base with en := 1#3 } ∧
      Instr.enable1 ≠ .sMaxq :=
  ⟨by decide +kernel, by decide, by decide, rfl, by decide⟩

/-- EveryStepKeepsTheEchoInvariant, EchoEndsWithTheWholeBufferSent: an echo in progress. -/
theorem witness_echoInv : EchoInv echoing.env ∧ echoing.env.phase = .echo :=
  ⟨by constructor <;> decide, by decide⟩

/-- EveryStepKeepsTheEchoInvariant: a turn of that echo completes. -/
theorem witness_echo_step :
    EchoInv { echoing with agenda := [.move (.loop (.wrote 1))] }.env ∧
      endsIn (step { echoing with agenda := [.move (.loop (.wrote 1))] })
        (fun t => t.env.echoed = [0x40#8, 0x80#8]) = true :=
  ⟨witness_echoInv.1, by decide⟩

/-- OnlyByteZeroIsOffered: the loop changes the port, and the byte it will offer. -/
theorem witness_loop_offers :
    (ready.loopTurn event).env.toOffer ≠ ready.env.toOffer ∧ (ready.loopTurn event).env.toOffer ≠ none ∧
      ((ready.loopTurn event).loopTurn .nothing).offer ≠ (ready.loopTurn event).offer := by decide

/-- OnlyByteZeroIsOffered: the premises of its two clauses on what is offered. -/
theorem witness_loop_offer_premises :
    ready.env.phase = .waitForData ∧ (ready.loopTurn event).env.phase = .consume ∧
      (ready.loopTurn event).env.toOffer = some 0x40#8 ∧ (ready.loopTurn event).offer = none := by decide

/-- IndicatorIsActiveFromTheWritesToTheEndOfTheEcho: the premises of its step clause. -/
theorem witness_indicator_step :
    echoing.env.phase = .echo ∧ echoing.env.led = .active ∧
      endsIn (step { echoing with agenda := [.move (.loop (.wrote 1))] })
        (fun t => t.env.phase = .echo) = true := by decide

/-- IndicatorIsActiveFromTheWritesToTheEndOfTheEcho: a turn of each kind that changes the indicator. -/
theorem witness_indicator :
    (State.loopTurn .nothing { ready with env := { ready.env with phase := .consume } }).env.led ≠
        ready.env.led ∧
      (State.loopTurn .nothing { echoing with env := { echoing.env with phase := .idle } }).env.led ≠
        echoing.env.led := by decide

/-! ### An endless run: a byte is taken, then the block waits -/

/-- `ready` settled by a period boundary. -/
def rested : State := pbound ready

/-- SettledNeedsABoundaryAfterTheLastDutyWrite, UnwrittenReadIsNeverClearedAndNeverQuiescent. -/
theorem witness_settled :
    rested.settledByBoundary = true ∧ endsIn (exec (Instr.setduty .ch2 636#16) ready) (fun _ => true) = true ∧
      decode (.stepCode 11#4) = .instr .sWr3 ∧ endsIn (exec .sWr3 ready) (fun _ => true) = true ∧
      { ready with unwrittenRead := some .dc }.unwrittenRead = some .dc ∧
      endsIn (runMove .sequencer { ready with unwrittenRead := some .dc }) (fun _ => true) = true := by
  decide

theorem witness_blockInv_rested : BlockInv rested := by constructor <;> decide

/-- The turns of the waiting block: a period boundary, then a step of the sequencer, and so on. -/
def restTurn (n : Nat) : Turn := .move (if n % 2 = 0 then .timer .pbound else .sequencer)

/-- The run: byte 128 is on offer at S_WAIT, and four steps of the sequencer perform its command. -/
def run128 : Nat → State
  | 0 => { ready with offer := some 128#8, agenda := [.move .sequencer] }
  | 1 => { ready with seq := 9#4, cb := ⟨128#8, true⟩, agenda := [.move .sequencer] }
  | 2 => { mapped with seq := 10#4, agenda := [.move .sequencer] }
  | 3 => { mapped with seq := 11#4, dutySh := ⟨0#16, 638#16, 636#16⟩, agenda := [.move .sequencer] }
  | n + 4 => { done n with agenda := [restTurn n] }
where
  mapped : State :=
    { ready with cb := ⟨128#8, true⟩, pct := ⟨0x4248C8CA#32, true⟩, rd := ⟨0x43169698#32, true⟩,
                 df := ⟨0x441F9382#32, true⟩, dc := ⟨638#16, true⟩ }
  done : Nat → State
    | 0 => { mapped with dutySh := ⟨0#16, 638#16, 638#16⟩ }
    | _ + 1 => pbound { mapped with dutySh := ⟨0#16, 638#16, 638#16⟩ }

theorem eq_next_of_endsIn {o : Result} {s : State} (h : endsIn o (fun t => t = s) = true) : o = .next s := by
  cases o <;> simp_all [endsIn]

/-- FairRunsSettleWhenNothingIsOffered, FairRunsTakeEveryOfferedByte: it is a run of the block. -/
theorem witness_run : BlockRun run128 := by
  constructor
  · intro n u hu
    match n, hu with
    | 0, hu | 1, hu | 2, hu | 3, hu | _ + 4, hu => exact ⟨_, List.mem_singleton.mp hu⟩
  · intro n
    match n with
    | 0 => exact ⟨_, _, eq_next_of_endsIn (s := { run128 1 with agenda := [] }) (by decide), rfl⟩
    | 1 => exact ⟨_, _, eq_next_of_endsIn (s := { run128 2 with agenda := [] }) (by decide +kernel), rfl⟩
    | 2 => exact ⟨_, _, eq_next_of_endsIn (s := { run128 3 with agenda := [] }) (by decide), rfl⟩
    | 3 => exact ⟨_, _, eq_next_of_endsIn (s := { run128 4 with agenda := [] }) (by decide), rfl⟩
    | 4 => exact ⟨_, _, eq_next_of_endsIn (s := { run128 5 with agenda := [] }) (by decide), rfl⟩
    | n + 5 =>
      refine ⟨{ run128 (n + 6) with agenda := [] }, _, ?_, rfl⟩
      rcases Nat.mod_two_eq_zero_or_one (n + 1) with h | h
      · show runTurn (restTurn (n + 1)) _ = _
        rw [restTurn, if_pos h]; rfl
      · show runTurn (restTurn (n + 1)) _ = _
        rw [restTurn, if_neg (by omega)]; rfl

/-- The same run is fair. -/
theorem witness_fair : Fair run128 := by
  constructor
  · intro n _
    refine ⟨2 * n + 5, by omega, ?_⟩
    show restTurn (2 * n + 1) = _
    rw [restTurn, if_neg (by omega)]
  · intro n
    refine ⟨2 * n + 4, by omega, ?_⟩
    show Turn.isBoundary (restTurn (2 * n)) _ = true
    rw [restTurn, if_pos (by omega)]; rfl

/-- The other premises of the two statements, on the same run. -/
theorem witness_run_premises :
    BlockInv (run128 0) ∧ (run128 0).offer = some 128#8 ∧ (∀ k, (run128 k).nextTurn ≠ .move .rst) ∧
      ∀ k, 1 ≤ k → (run128 k).offer = none := by
  refine ⟨by constructor <;> decide, by decide, fun k => ?_, fun k hk => ?_⟩
  · match k with
    | 0 | 1 | 2 | 3 => decide
    | n + 4 =>
      show restTurn n ≠ _
      unfold restTurn
      split <;> decide
  · match k, hk with
    | 1, _ | 2, _ | 3, _ | 4, _ => decide
    | n + 5, _ => rfl

end Sys2Proof.Tests
end

/-! ## Proofs of the family 00_scope: power on, Settled, and the corner cases of B2P and P2R -/

/-! ### Rounding, the packed pattern, and the operations on finite operands (rule R91) -/

namespace Sys2Proof

theorem F32.roundMagnitude_le_infMagnitude (n d : Nat) : F32.roundMagnitude n d ≤ F32.infMagnitude :=
  Nat.min_le_right _ _

/-- Rounding never passes a binary32 value that is at least the exact result. -/
theorem F32.roundMagnitude_le {n d q : Nat} (hd : 0 < d) (h : n ≤ F32.magnitudeUnits q * d) :
    F32.roundMagnitude n d ≤ q := by
  obtain ⟨k, m, r, hn, -, hlo, -, ⟨hround, -⟩ | ⟨hround, hup⟩⟩ := F32.roundMagnitude_cases n d hd
  · have hle : F32.magnitudeUnits (k * 2 ^ 23 + m) ≤ F32.magnitudeUnits q := by
      rw [hlo]; exact Nat.le_of_mul_le_mul_right (by omega) hd
    have := F32.magnitudeUnits_strictMono.le_iff_le.mp hle
    omega
  · have hg : 0 < d * 2 ^ k := Nat.mul_pos hd (Nat.two_pow_pos k)
    have hlt : F32.magnitudeUnits (k * 2 ^ 23 + m) < F32.magnitudeUnits q := by
      rw [hlo]; exact Nat.lt_of_mul_lt_mul_right (a := d) (by omega)
    have := F32.magnitudeUnits_strictMono.lt_iff_lt.mp hlt
    omega

/-- Rounding never passes a binary32 value that is at most the exact result. -/
theorem F32.le_roundMagnitude {n d q : Nat} (hd : 0 < d) (hq : q ≤ F32.infMagnitude)
    (h : F32.magnitudeUnits q * d ≤ n) : q ≤ F32.roundMagnitude n d := by
  obtain ⟨k, m, r, hn, hr, -, hhi, hround⟩ := F32.roundMagnitude_cases n d hd
  have hnext : (m + 1) * 2 ^ k * d = m * 2 ^ k * d + d * 2 ^ k := by ring
  have hlt : F32.magnitudeUnits q < F32.magnitudeUnits (k * 2 ^ 23 + m + 1) := by
    rw [hhi]; exact Nat.lt_of_mul_lt_mul_right (a := d) (by omega)
  have := F32.magnitudeUnits_strictMono.lt_iff_lt.mp hlt
  rcases hround with ⟨hround, -⟩ | ⟨hround, -⟩ <;>
    exact hround ▸ Nat.le_min.mpr ⟨by omega, hq⟩

/-- A value that binary32 has is rounded to itself. -/
theorem F32.roundMagnitude_exact {n d q : Nat} (hd : 0 < d) (hq : q ≤ F32.infMagnitude)
    (h : n = F32.magnitudeUnits q * d) : F32.roundMagnitude n d = q :=
  Nat.le_antisymm (F32.roundMagnitude_le hd h.le) (F32.le_roundMagnitude hd hq h.ge)

/-- Binary32 has every whole number below `2 ^ 24`. -/
theorem F32.exists_magnitudeUnits_eq (n : Nat) (h : n < 2 ^ 24) :
    ∃ q < F32.infMagnitude, F32.magnitudeUnits q = n * 2 ^ 149 := by
  by_cases h0 : n = 0
  · exact ⟨0, by decide, by subst h0; rfl⟩
  · obtain ⟨e, he⟩ : ∃ e, n.log2 = e := ⟨_, rfl⟩
    have he24 : e < 24 := he ▸ (Nat.log2_lt h0).mpr h
    have hlow : 2 ^ 23 ≤ n * 2 ^ (23 - e) := by
      calc 2 ^ 23 = 2 ^ e * 2 ^ (23 - e) := by rw [← Nat.pow_add]; congr 1; omega
        _ ≤ n * 2 ^ (23 - e) := Nat.mul_le_mul_right _ (he ▸ Nat.log2_self_le h0)
    have hhigh : n * 2 ^ (23 - e) ≤ 2 ^ 24 := by
      calc n * 2 ^ (23 - e) ≤ 2 ^ (e + 1) * 2 ^ (23 - e) :=
            Nat.mul_le_mul_right _ (he ▸ Nat.lt_log2_self.le)
        _ = 2 ^ 24 := by rw [← Nat.pow_add]; congr 1; omega
    refine ⟨(126 + e) * 2 ^ 23 + n * 2 ^ (23 - e), ?_, ?_⟩
    · simp only [F32.infMagnitude]; omega
    · rw [F32.magnitudeUnits_encoded _ _ hhigh (.inr hlow), Nat.mul_assoc, ← Nat.pow_add]
      congr 2; omega

@[simp] theorem F32.sign_pack (s : Bool) (m : Nat) : F32.sign (F32.pack s m) = s := by
  rw [F32.sign, F32.pack, BitVec.getLsbD_append]
  cases s <;> simp

theorem F32.magnitude_pack (s : Bool) {m : Nat} (h : m ≤ F32.infMagnitude) :
    F32.magnitude (F32.pack s m) = m := by
  have hlt : m < 2 ^ 31 := Nat.lt_of_le_of_lt h (by decide)
  simp only [F32.magnitude, F32.pack, BitVec.toNat_append, BitVec.toNat_ofNat]
  rw [Nat.mod_eq_of_lt hlt, ← Nat.shiftLeft_add_eq_or_of_lt hlt, Nat.shiftLeft_eq,
    Nat.mul_add_mod_self_right, Nat.mod_eq_of_lt hlt]

@[simp] theorem F32.magnitude_pack_round (s : Bool) (n d : Nat) :
    F32.magnitude (F32.pack s (F32.roundMagnitude n d)) = F32.roundMagnitude n d :=
  F32.magnitude_pack s (F32.roundMagnitude_le_infMagnitude n d)

theorem F32.natAbs_units (x : F32) : (F32.units x).natAbs = F32.magnitudeUnits (F32.magnitude x) := by
  unfold F32.units; split <;> simp

theorem F32.units_of_sign_false {x : F32} (h : F32.sign x = false) :
    F32.units x = F32.magnitudeUnits (F32.magnitude x) := by
  simp [F32.units, h]

theorem F32.isFinite_of_magnitude_le {x : F32} {q : Nat} (hx : F32.magnitude x ≤ q)
    (hq : q < F32.infMagnitude) : F32.isFinite x = true :=
  decide_eq_true (Nat.lt_of_le_of_lt hx hq)

/-- A finite pattern is neither a NaN nor an infinity. -/
theorem F32.not_nan_not_inf {x : F32} (h : F32.isFinite x = true) :
    F32.isNaN x = false ∧ F32.isInf x = false := by
  rcases F32.class_cases x with ⟨-, -, hf⟩ | ⟨-, -, hf⟩ | ⟨hn, hi, -⟩
  · rw [h] at hf; contradiction
  · rw [h] at hf; contradiction
  · exact ⟨hn, hi⟩

/-- The product of finite operands is the exact one, rounded once. -/
theorem fmul_of_finite {a b : F32} (ha : F32.isFinite a = true) (hb : F32.isFinite b = true) :
    fmul a b = F32.pack (F32.sign a != F32.sign b)
      (F32.roundMagnitude (F32.magnitudeUnits (F32.magnitude a) * F32.magnitudeUnits (F32.magnitude b))
        (2 ^ 149)) := by
  obtain ⟨han, hai⟩ := F32.not_nan_not_inf ha
  obtain ⟨hbn, hbi⟩ := F32.not_nan_not_inf hb
  simp [fmul_eq, F32.mul, han, hai, hbn, hbi, F32.natAbs_units]

/-- The quotient of finite operands, the divisor not zero, is the exact one, rounded once. -/
theorem fdiv_of_finite {a b : F32} (ha : F32.isFinite a = true) (hb : F32.isFinite b = true)
    (hz : F32.isZero b = false) :
    fdiv a b = F32.pack (F32.sign a != F32.sign b)
      (F32.roundMagnitude (F32.magnitudeUnits (F32.magnitude a) * 2 ^ 149)
        (F32.magnitudeUnits (F32.magnitude b))) := by
  obtain ⟨han, hai⟩ := F32.not_nan_not_inf ha
  obtain ⟨hbn, hbi⟩ := F32.not_nan_not_inf hb
  simp [fdiv_eq, F32.div, han, hai, hbn, hbi, hz, F32.natAbs_units]

/-! ### The byte as a binary32 value and as a percentage (rules R13, R93) -/

@[simp] theorem u8ToF32_sign (b : Byte) : F32.sign (u8ToF32 b) = false := by
  rw [u8ToF32_eq, F32.sign_pack]

/-- A byte is converted without rounding, and to a finite pattern. -/
theorem u8ToF32_magnitude (b : Byte) :
    F32.magnitudeUnits (F32.magnitude (u8ToF32 b)) = b.toNat * 2 ^ 149 ∧
      F32.isFinite (u8ToF32 b) = true := by
  obtain ⟨q, hq, hunits⟩ := F32.exists_magnitudeUnits_eq b.toNat (by have := b.isLt; omega)
  have hmag : F32.magnitude (u8ToF32 b) = q := by
    rw [u8ToF32_eq, F32.magnitude_pack_round,
      F32.roundMagnitude_exact Nat.one_pos hq.le (by rw [hunits, Nat.mul_one])]
  exact ⟨by rw [hmag, hunits], F32.isFinite_of_magnitude_le hmag.le hq⟩

theorem u8ToF32_units (b : Byte) : F32.units (u8ToF32 b) = b.toNat * 2 ^ 149 := by
  rw [F32.units_of_sign_false (u8ToF32_sign b), (u8ToF32_magnitude b).1]
  push_cast; rfl

/-- `0x3F800000` is the pattern of 1. -/
theorem F32.magnitudeUnits_one : F32.magnitudeUnits 0x3F800000 = 2 ^ 149 := by decide

/-- The fraction of full scale that a byte is: not negative, and at most 1. -/
theorem byteFraction_bounds (b : Byte) :
    F32.sign (fdiv (u8ToF32 b) k255) = false ∧
      F32.magnitude (fdiv (u8ToF32 b) k255) ≤ 0x3F800000 := by
  obtain ⟨hunits, hfin⟩ := u8ToF32_magnitude b
  have hk : F32.magnitudeUnits (F32.magnitude k255) = 255 * 2 ^ 149 := by decide
  rw [fdiv_of_finite hfin (by decide) (by decide), F32.sign_pack, F32.magnitude_pack_round, hunits, hk]
  refine ⟨by rw [u8ToF32_sign]; decide, F32.roundMagnitude_le (by decide) ?_⟩
  have := b.isLt
  rw [F32.magnitudeUnits_one]; omega

/-- The percentage of a byte: not negative, and at most 100, the pattern `0x42C80000`. -/
theorem b2p_bounds (b : Byte) : F32.sign (b2p b) = false ∧ F32.magnitude (b2p b) ≤ 0x42C80000 := by
  obtain ⟨hsign, hmag⟩ := byteFraction_bounds b
  have hle := F32.magnitudeUnits_one ▸ F32.magnitudeUnits_strictMono.monotone hmag
  have hhundred : F32.magnitudeUnits 0x42C80000 = F32.magnitudeUnits (F32.magnitude k100) := by decide
  rw [b2p, fmul_of_finite (F32.isFinite_of_magnitude_le hmag (by decide)) (by decide), F32.sign_pack,
    F32.magnitude_pack_round, hsign]
  refine ⟨by decide, F32.roundMagnitude_le (Nat.two_pow_pos 149) ?_⟩
  rw [hhundred, Nat.mul_comm]
  exact Nat.mul_le_mul_left _ hle

/-- Settles O11: exactness is a statement about rounding, sign and finiteness follow from the bounds of the
two operations of B2P, and the values of the rules are evaluated. -/
theorem byteToPercentageCornerCases : Obligations.ByteToPercentageCornerCases := by
  refine ⟨u8ToF32_units, fun b => ?_, ?_⟩
  · obtain ⟨hsign, hmag⟩ := b2p_bounds b
    exact ⟨hsign, F32.isFinite_of_magnitude_le hmag (by decide)⟩
  · decide

end Sys2Proof

namespace Sys2Proof.Machine

/-! ### Power on (rules R10, R166, R171) -/

theorem Period.make_in_range {n : Nat} (h1 : 1 ≤ n) (h2 : n ≤ 65535) :
    ∃ p, Period.make n = some p ∧ p.ticks.toNat = n := by
  have hn : (BitVec.ofNat 16 n).toNat = n := by rw [BitVec.toNat_ofNat]; omega
  have h : BitVec.ofNat 16 n ≠ 0#16 ∧ paramOk n := by
    refine ⟨fun h0 => ?_, by simp [paramOk, h1, h2]⟩
    rw [h0, BitVec.toNat_zero] at hn
    omega
  exact ⟨⟨BitVec.ofNat 16 n, h.1⟩, dif_pos h, hn⟩

theorem Period.make_out_of_range {n : Nat} (h : n = 0 ∨ 65535 < n) : Period.make n = none := by
  refine dif_neg fun ⟨_, hok⟩ => ?_
  simp only [paramOk, Bool.and_eq_true, decide_eq_true_eq] at hok
  omega

theorem powerOn_of_periods {m k : Nat} {p q : Period} (hm : Period.make m = some p)
    (hk : Period.make k = some q) (s : State) :
    s.powerOn m k = .next { State.reset with
      maxDuty := p, maxDuty1k := q, offer := s.offer, agenda := s.agenda, drawn := s.drawn } := by
  rw [State.powerOn, hm, hk]

theorem powerOn_bad_maxDuty {m : Nat} (hm : Period.make m = none) (k : Nat) (s : State) :
    s.powerOn m k = .refused (.badParameter m) := by
  rw [State.powerOn, hm]

theorem powerOn_bad_maxDuty1k {m k : Nat} {p : Period} (hm : Period.make m = some p)
    (hk : Period.make k = none) (s : State) : s.powerOn m k = .refused (.badParameter k) := by
  rw [State.powerOn, hm, hk]

/-- The step of a turn of power on. -/
theorem step_powerOn {s : State} {m k : Nat} {rest : List Turn} (h : s.agenda = .powerOn m k :: rest) :
    step s = (s.setAgenda rest).powerOn m k :=
  step_cons h

/-- Settles O3: whether a parameter gives a period decides the turn. -/
theorem powerOnTakesParametersInRangeOnly : Obligations.PowerOnTakesParametersInRangeOnly := by
  intro s rest m k hagenda
  rw [step_powerOn hagenda]
  refine ⟨fun hm1 hm2 hk1 hk2 => ?_, fun hm => ?_, fun hm1 hm2 hk => ?_⟩
  · obtain ⟨p, hp, hpticks⟩ := Period.make_in_range hm1 hm2
    obtain ⟨q, hq, hqticks⟩ := Period.make_in_range hk1 hk2
    exact ⟨_, powerOn_of_periods hp hq _, hpticks, hqticks, rfl⟩
  · exact powerOn_bad_maxDuty (Period.make_out_of_range hm) k _
  · obtain ⟨p, hp, -⟩ := Period.make_in_range hm1 hm2
    exact powerOn_bad_maxDuty1k hp (Period.make_out_of_range hk) _

/-! ### Settled (rules R16, R204) -/

@[simp] theorem setTimer_quiescent (s : State) (c : Half) (d : Duties) (p : Bool) :
    (s.setTimer c d p).quiescent = s.quiescent := rfl

theorem not_settledByBoundary_of_pending {s : State} (h : s.dutyPending = true) :
    s.settledByBoundary = false := by
  simp [State.settledByBoundary, h]

/-- A duty write that completes is one of R114's, whatever the value held was. -/
theorem setDuty_eq_next {ch : Channel} {v : Half} {s t : State} (h : setDuty ch v s = .next t) :
    t = s.setDutySh ch v := by
  rcases setDuty_cases ch v s with ⟨-, hfault⟩ | ⟨-, hnext⟩
  · rw [hfault] at h; contradiction
  · rw [hnext] at h; injection h with h; exact h.symm

theorem exec_setduty (ch : Channel) (v : Half) (s : State) :
    exec (Instr.setduty ch v) s = setDuty ch v s := by
  cases ch <;> rfl

/-- The two step heads that the microprogram uses write to channel 2 and to channel 3 (rules R136, R140). -/
theorem writeDutyStep_pending {head : BitVec 4} {c : StepCode} {s t : State}
    (hhead : head = 0xE#4 ∨ head = 0xF#4) (h : writeDutyStep head c s = .next t) :
    t.dutyPending = true := by
  obtain ⟨u, hissue, hu⟩ := thenDo_eq_next.mp h
  injection hu with hu
  subst hu
  rcases hhead with rfl | rfl
  · rw [issue_setduty2] at hissue; rw [setDuty_eq_next hissue]; rfl
  · rw [issue_setduty3] at hissue; rw [setDuty_eq_next hissue]; rfl

/-- Rule R76: the steps that write a duty. -/
theorem decode_dutyStep {c : StepCode} {i : Instr} (hc : c ∈ [6#4, 7#4, 10#4, 11#4])
    (hi : decode (.stepCode c) = .instr i) : i ∈ [Instr.sPr2, .sPr3, .sWr2, .sWr3] := by
  simp only [List.mem_cons, List.not_mem_nil, or_false] at hc
  rcases hc with rfl | rfl | rfl | rfl <;> (injection hi with hi; subst hi; decide)

/-- Each of these steps leaves a duty written since the last boundary (rules R136, R140). -/
theorem exec_dutyStep_pending {i : Instr} {s t : State} (hi : i ∈ [Instr.sPr2, .sPr3, .sWr2, .sWr3])
    (h : exec i s = .next t) : t.dutyPending = true := by
  simp only [List.mem_cons, List.not_mem_nil, or_false] at hi
  rcases hi with rfl | rfl | rfl | rfl
  · exact writeDutyStep_pending (.inl rfl) h
  · exact writeDutyStep_pending (.inr rfl) h
  · exact writeDutyStep_pending (.inl rfl) h
  · exact writeDutyStep_pending (.inr rfl) h

theorem pbound_settledByBoundary (s : State) : (pbound s).settledByBoundary = s.quiescent := by
  simp [State.settledByBoundary, pbound]

theorem pbound_settled (s : State) : (pbound s).settled = s.quiescent := by
  simp [State.settled, pbound]

/-- R16's form of Settled gives R204's on a run of the block. -/
theorem BlockInv.settled_of_settledByBoundary {s : State} (hinv : BlockInv s)
    (h : s.settledByBoundary = true) : s.settled = true := by
  simp only [State.settledByBoundary, Bool.and_eq_true, Bool.not_eq_true'] at h
  obtain ⟨hquiet, hpending⟩ := h
  simp [State.settled, hquiet, hinv.active_is_shadow hpending]

/-- Settles O49: a duty write sets the record that only a period boundary clears. -/
theorem settledNeedsABoundaryAfterTheLastDutyWrite :
    Obligations.SettledNeedsABoundaryAfterTheLastDutyWrite := by
  refine ⟨fun ch v s t h => not_settledByBoundary_of_pending ?_,
    fun c i s t hi hc h => not_settledByBoundary_of_pending
      (exec_dutyStep_pending (decode_dutyStep hc hi) h),
    fun s => ⟨pbound_settledByBoundary s, pbound_settled s⟩,
    fun _ hinv => hinv.settled_of_settledByBoundary⟩
  rw [exec_setduty] at h
  rw [setDuty_eq_next h]; rfl

end Sys2Proof.Machine

/-! ## Proofs of the family 10_state: reset, how SEQ advances, the invariant of rule R42 and the frames of the
instructions and of an offered byte -/

namespace Sys2Proof.Machine

/-! ### What a step of the sequencer does -/

/-- What the step of a code does to the state where it answers a next state (rules R132 to R140): the successor
state, and the guard of the steps that have one. -/
inductive StepEffect (s : State) : StepCode → State → Prop
  | sFreq : StepEffect s 0#4 ((s.setFsel .f10k).setSeq 1#4)
  | sMaxq : StepEffect s 1#4 (((s.setBusRead s.pwmPeriod).writeMaxd s.pwmPeriod).setSeq 2#4)
  | sEn1 : StepEffect s 2#4 ((s.setEn (s.en ||| 1#3)).setSeq 3#4)
  | sEn2 : StepEffect s 3#4 ((s.setEn (s.en ||| 2#3)).setSeq 4#4)
  | sEn3 : StepEffect s 4#4 ((s.setEn (s.en ||| 4#3)).setSeq 5#4)
  | sDef : StepEffect s 5#4
      (((((s.writeRd kRdef).writeDf (qmap kRdef)).noteRead .maxd s.maxd.written).writeDc
        (mapD s.maxd.val)).setSeq 6#4)
  | sPr2 (h : s.dc.val ≤ s.pwmPeriod) : StepEffect s 6#4
      (((s.noteRead .dc s.dc.written).setDutySh .ch2 s.dc.val).setSeq 7#4)
  | sPr3 (h : s.dc.val ≤ s.pwmPeriod) : StepEffect s 7#4
      (((s.noteRead .dc s.dc.written).setDutySh .ch3 s.dc.val).setSeq 8#4)
  | sWaitTakes (b : Byte) (h : s.offer = some b) :
      StepEffect s 8#4 (((s.writeCb b).setOffer none).setSeq 9#4)
  | sWaitStays (h : s.offer = none) : StepEffect s 8#4 (s.setSeq 8#4)
  | sMap : StepEffect s 9#4
      (((((((s.noteRead .cb s.cb.written).writePct (b2p s.cb.val)).writeRd
        (p2r (b2p s.cb.val))).writeDf (qmap (p2r (b2p s.cb.val)))).noteRead .maxd s.maxd.written).writeDc
          (mapB s.cb.val s.maxd.val)).setSeq 10#4)
  | sWr2 (h : s.dc.val ≤ s.pwmPeriod) : StepEffect s 10#4
      (((s.noteRead .dc s.dc.written).setDutySh .ch2 s.dc.val).setSeq 11#4)
  | sWr3 (h : s.dc.val ≤ s.pwmPeriod) : StepEffect s 11#4
      (((s.noteRead .dc s.dc.written).setDutySh .ch3 s.dc.val).setSeq 8#4)

/-- A step that writes `DC` to a channel answers a next state exactly where `DC` is in range (rule R115). -/
theorem writeDutyStep_eq_next {head : BitVec 4} {ch : Channel} {c : StepCode} {s t : State}
    (hissue : ∀ v u, issue (head ++ v) u = setDuty ch v u) :
    writeDutyStep head c s = .next t ↔ s.dc.val ≤ s.pwmPeriod ∧
      ((s.noteRead .dc s.dc.written).setDutySh ch s.dc.val).setSeq c = t := by
  rw [writeDutyStep, issueStep, hissue]
  rcases setDuty_cases ch s.dc.val (s.noteRead .dc s.dc.written) with ⟨hrange, h⟩ | ⟨hrange, h⟩
  · rw [h, thenDo_fault]
    exact ⟨fun h => by contradiction, fun h => absurd h.1 (BitVec.not_le.mpr hrange)⟩
  · rw [h, thenDo_next, Host.Outcome.next.injEq]
    exact ⟨fun h => ⟨hrange, h⟩, fun h => h.2⟩

theorem runWord_sWait_of_offer {s : State} {b : Byte} (h : s.offer = some b) :
    runWord (.stepCode 8#4) s = .next (((s.writeCb b).setOffer none).setSeq 9#4) := by
  show execSWait s = _
  rw [execSWait, h]

theorem runWord_sWait_of_no_offer {s : State} (h : s.offer = none) :
    runWord (.stepCode 8#4) s = .next (s.setSeq 8#4) := by
  show execSWait s = _
  rw [execSWait, h]

/-- The step of a code answers exactly the next states of `StepEffect`; a reserved code, or a duty out of range,
answers none. -/
theorem runWord_stepCode_eq_next {c : StepCode} {s t : State} :
    runWord (.stepCode c) s = .next t ↔ StepEffect s c t := by
  constructor
  · intro h
    obtain ⟨n, hn, rfl⟩ : ∃ n < 16, c = BitVec.ofNat 4 n := ⟨c.toNat, c.isLt, by simp⟩
    interval_cases n
    · cases h; exact .sFreq
    · cases h; exact .sMaxq
    · cases h; exact .sEn1
    · cases h; exact .sEn2
    · cases h; exact .sEn3
    · cases h; exact .sDef
    · obtain ⟨hrange, rfl⟩ := (writeDutyStep_eq_next issue_setduty2).mp h
      exact .sPr2 hrange
    · obtain ⟨hrange, rfl⟩ := (writeDutyStep_eq_next issue_setduty3).mp h
      exact .sPr3 hrange
    · rcases hoffer : s.offer with _ | b
      · rw [runWord_sWait_of_no_offer hoffer] at h
        cases h
        exact .sWaitStays hoffer
      · rw [runWord_sWait_of_offer hoffer] at h
        cases h
        exact .sWaitTakes b hoffer
    · cases h; exact .sMap
    · obtain ⟨hrange, rfl⟩ := (writeDutyStep_eq_next issue_setduty2).mp h
      exact .sWr2 hrange
    · obtain ⟨hrange, rfl⟩ := (writeDutyStep_eq_next issue_setduty3).mp h
      exact .sWr3 hrange
    all_goals contradiction
  · intro h
    cases h with
    | sFreq | sMaxq | sEn1 | sEn2 | sEn3 | sDef | sMap => rfl
    | sPr2 h | sWr2 h => exact writeDutyStep_ch2 _ s h
    | sPr3 h | sWr3 h => exact writeDutyStep_ch3 _ s h
    | sWaitTakes b h => exact runWord_sWait_of_offer h
    | sWaitStays h => exact runWord_sWait_of_no_offer h

theorem seqStep_eq_next {s t : State} : seqStep s = .next t ↔ StepEffect s s.seq t := by
  rw [seqStep_eq_runWord, runWord_stepCode_eq_next]

/-- The same for a step executed at any SEQ (log 18). -/
theorem stepEffect_of_exec {i : Instr} {c : StepCode} {s t : State} (hi : encode i = .stepCode c)
    (h : exec i s = .next t) : StepEffect s c t := by
  cases i <;> cases hi <;> exact runWord_stepCode_eq_next.mp h

/-- Every step below 12 answers a next state, those that write a duty where it is in range (rules R115,
R171). -/
theorem stepEffect_exists {s : State} {c : StepCode} (hc : c.toNat ≤ 11)
    (hdc : 6 ≤ c.toNat → s.dc.val ≤ s.pwmPeriod) : ∃ t, StepEffect s c t := by
  obtain ⟨n, hn, rfl⟩ : ∃ n ≤ 11, c = BitVec.ofNat 4 n := ⟨c.toNat, hc, by simp⟩
  interval_cases n
  · exact ⟨_, .sFreq⟩
  · exact ⟨_, .sMaxq⟩
  · exact ⟨_, .sEn1⟩
  · exact ⟨_, .sEn2⟩
  · exact ⟨_, .sEn3⟩
  · exact ⟨_, .sDef⟩
  · exact ⟨_, .sPr2 (hdc (by decide))⟩
  · exact ⟨_, .sPr3 (hdc (by decide))⟩
  · rcases hoffer : s.offer with _ | b
    · exact ⟨_, .sWaitStays hoffer⟩
    · exact ⟨_, .sWaitTakes b hoffer⟩
  · exact ⟨_, .sMap⟩
  · exact ⟨_, .sWr2 (hdc (by decide))⟩
  · exact ⟨_, .sWr3 (hdc (by decide))⟩

/-! ### The invariant of rule R42 in two parts -/

/-- The part of `BlockInv` that does not speak of SEQ. -/
structure DataInv (s : State) : Prop where
  maxd_value : s.maxd.written = true → s.maxd.val = s.maxDuty.ticks
  maxd_before_dc : s.dc.written = true → s.maxd.written = true
  dc_bound : s.dc.written = true → s.dc.val ≤ s.maxDuty.ticks
  ch1_shadow : s.dutySh.ch1 = 0#16
  ch1_active : s.dutyAct.ch1 = 0#16
  shadow_bound : s.dutySh.ch2 ≤ s.maxDuty.ticks ∧ s.dutySh.ch3 ≤ s.maxDuty.ticks
  active_bound : s.dutyAct.ch2 ≤ s.maxDuty.ticks ∧ s.dutyAct.ch3 ≤ s.maxDuty.ticks
  active_is_shadow : s.dutyPending = false → s.dutyAct = s.dutySh
  nothing_unwritten_read : s.unwrittenRead = none
  agenda_block : ∀ t ∈ s.agenda, Turn.ofBlock t = true

/-- The part of `BlockInv` that says what the microprogram has done before the step of code `c` (rule R131),
with the code apart from the state: a step's effect is then one `BlockProgress` after another. -/
def BlockProgress (c : StepCode) (s : State) : Prop :=
  c.toNat ≤ 11 ∧
  (1 ≤ c.toNat → s.fsel = .f10k) ∧
  (s.en = if c.toNat ≤ 2 then 0#3 else if c.toNat = 3 then 1#3 else if c.toNat = 4 then 3#3 else 7#3) ∧
  (2 ≤ c.toNat → s.maxd.written = true) ∧
  (6 ≤ c.toNat → s.dc.written = true) ∧
  (c.toNat = 9 → s.cb.written = true) ∧
  (c.toNat ∈ [7, 8, 9, 11] → s.dutySh.ch2 = s.dc.val) ∧
  (c.toNat ∉ [7, 11] → s.dutySh.ch2 = s.dutySh.ch3)

theorem blockInv_iff {s : State} : BlockInv s ↔ DataInv s ∧ BlockProgress s.seq s := by
  constructor
  · intro h
    exact ⟨{ h with }, h.seq_legal, h.fsel_set, h.en_set, h.maxd_written, h.dc_written, h.cb_written,
      h.shadow_is_dc, h.shadows_equal⟩
  · rintro ⟨h, hseq, hfsel, hen, hmaxd, hdc, hcb, hshadow, hequal⟩
    exact { h with
      seq_legal := hseq, fsel_set := hfsel, en_set := hen, maxd_written := hmaxd, dc_written := hdc,
      cb_written := hcb, shadow_is_dc := hshadow, shadows_equal := hequal }

/-! ### Each operation keeps the part that does not speak of SEQ -/

theorem DataInv.noteRead {s : State} (h : DataInv s) (x : DataReg) {written : Bool}
    (hwritten : written = true) : DataInv (s.noteRead x written) := by
  rw [hwritten, noteRead_of_written]
  exact h

theorem DataInv.writeDc {s : State} (h : DataInv s) {v : Half} (hmaxd : s.maxd.written = true)
    (hv : v ≤ s.maxDuty.ticks) : DataInv (s.writeDc v) :=
  { h with maxd_before_dc := fun _ => hmaxd, dc_bound := fun _ => hv }

theorem DataInv.setDutySh_ch2 {s : State} (h : DataInv s) {v : Half} (hv : v ≤ s.maxDuty.ticks) :
    DataInv (s.setDutySh .ch2 v) :=
  { h with shadow_bound := ⟨hv, h.shadow_bound.2⟩, active_is_shadow := fun h => by contradiction }

theorem DataInv.setDutySh_ch3 {s : State} (h : DataInv s) {v : Half} (hv : v ≤ s.maxDuty.ticks) :
    DataInv (s.setDutySh .ch3 v) :=
  { h with shadow_bound := ⟨h.shadow_bound.1, hv⟩, active_is_shadow := fun h => by contradiction }

theorem DataInv.setTimer {s : State} (h : DataInv s) (c : Half) {d : Duties} {p : Bool}
    (hleft : TimerLeft s d p) : DataInv (s.setTimer c d p) := by
  rcases hleft with ⟨rfl, rfl⟩ | ⟨rfl, rfl⟩
  · exact { h with }
  · exact { h with
      ch1_active := h.ch1_shadow, active_bound := h.shadow_bound, active_is_shadow := fun _ => rfl }

/-- Rule R98: no duty that the mapper computes is above its bound. -/
theorem f2d_le (x : F32) (m : Half) : f2d x m ≤ m := by
  rw [f2d_eq, F32.toDuty, BitVec.le_def]
  have := m.isLt
  split_ifs
  · simp
  · simp
  · exact le_rfl
  · rw [BitVec.toNat_ofNat]
    omega

/-- The common end of S_DEF and S_MAP: with MAXD latched, the duty computed is in range (rule R42 item 2). -/
theorem DataInv.writeMapped {s : State} (h : DataInv s) (hmaxd : s.maxd.written = true) (x : F32) :
    DataInv (((s.writeDf x).noteRead .maxd s.maxd.written).writeDc (f2d x s.maxd.val)) := by
  have hread : DataInv (s.writeDf x) := { h with }
  exact (hread.noteRead .maxd hmaxd).writeDc hmaxd (h.maxd_value hmaxd ▸ f2d_le x s.maxd.val)

/-! ### Each step keeps the invariant -/

/-- The duty that the duty steps write is in range at their SEQ (rules R42 item 2, R131). -/
theorem dc_le_pwmPeriod {s : State} {c : StepCode} (h : DataInv s) (hprogress : BlockProgress c s)
    (hc : 6 ≤ c.toNat) : s.dc.val ≤ s.pwmPeriod := by
  obtain ⟨-, hfsel, -, -, hdc, -⟩ := hprogress
  rw [pwmPeriod_f10k (hfsel (by omega))]
  exact h.dc_bound (hdc hc)

/-- Beside SEQ, only S_MAXQ, the ends of S_DEF and S_MAP and the duty steps write what `DataInv` speaks of. -/
theorem StepEffect.dataInv {s t : State} {c : StepCode} (heffect : StepEffect s c t) (h : DataInv s)
    (hprogress : BlockProgress c s) : DataInv t := by
  obtain ⟨-, hfsel, -, hmaxd, hdc, hcb, -, -⟩ := hprogress
  cases heffect with
  | sFreq | sEn1 | sEn2 | sEn3 | sWaitTakes | sWaitStays => exact { h with }
  | sMaxq =>
    exact { h with
      maxd_value := fun _ => pwmPeriod_f10k (hfsel (by decide)), maxd_before_dc := fun _ => rfl }
  | sDef =>
    have hread : DataInv (s.writeRd kRdef) := { h with }
    exact { hread.writeMapped (hmaxd (by decide)) (qmap kRdef) with }
  | sMap =>
    have hread : DataInv (((s.noteRead .cb s.cb.written).writePct (b2p s.cb.val)).writeRd
      (p2r (b2p s.cb.val))) := { h.noteRead .cb (hcb (by decide)) with }
    exact { hread.writeMapped (hmaxd (by decide)) (qmap (p2r (b2p s.cb.val))) with }
  | sPr2 | sWr2 =>
    have hdc := hdc (by decide)
    exact { (h.noteRead .dc hdc).setDutySh_ch2 (h.dc_bound hdc) with }
  | sPr3 | sWr3 =>
    have hdc := hdc (by decide)
    exact { (h.noteRead .dc hdc).setDutySh_ch3 (h.dc_bound hdc) with }

/-- Rule R131: each step does the next part of the microprogram. What is due at the successor was due at the
step's own code, or is what the step writes. -/
theorem StepEffect.blockProgress {s t : State} {c : StepCode} (heffect : StepEffect s c t)
    (hprogress : BlockProgress c s) : BlockProgress t.seq t := by
  obtain ⟨hlegal, hfsel, hen, hmaxd, hdc, hcb, hshadow, hequal⟩ := hprogress
  cases heffect <;> simp_all [BlockProgress]

theorem seqStep_keeps_blockInv {s : State} (h : BlockInv s) : ∃ t, seqStep s = .next t ∧ BlockInv t := by
  obtain ⟨hdata, hprogress⟩ := blockInv_iff.mp h
  obtain ⟨t, ht⟩ := stepEffect_exists h.seq_legal (dc_le_pwmPeriod hdata hprogress)
  exact ⟨t, seqStep_eq_next.mpr ht,
    blockInv_iff.mpr ⟨ht.dataInv hdata hprogress, ht.blockProgress hprogress⟩⟩

/-! ### Each turn keeps the invariant -/

theorem timerEvent_keeps_blockInv {s : State} (h : BlockInv s) (e : TimerEvent) : BlockInv (timerEvent s e) := by
  obtain ⟨hdata, hprogress⟩ := blockInv_iff.mp h
  obtain ⟨c, d, p, heq, hleft⟩ := timerEvent_eq_setTimer s e
  rw [heq]
  exact blockInv_iff.mpr ⟨hdata.setTimer c hleft, hprogress⟩

theorem timerGap_keeps_blockInv {s : State} (h : BlockInv s) : BlockInv (timerGap s) := by
  obtain ⟨hdata, hprogress⟩ := blockInv_iff.mp h
  obtain ⟨c, d, p, heq, hleft⟩ := timerGap_eq_setTimer s
  rw [heq]
  exact blockInv_iff.mpr ⟨{ hdata.setTimer c hleft with }, hprogress⟩

theorem sequencerRun_keeps_blockInv (n : Nat) {s : State} (h : BlockInv s) :
    ∃ t, sequencerRun n s = .next t ∧ BlockInv t := by
  induction n generalizing s with
  | zero => exact ⟨s, rfl, h⟩
  | succ n ih =>
    obtain ⟨u, hu, hinv⟩ := seqStep_keeps_blockInv (timerGap_keeps_blockInv h)
    rw [sequencerRun, hu, thenDo_next]
    exact ih hinv

theorem runToWaiting_keeps_blockInv (n : Nat) {s : State} (h : BlockInv s) :
    ∃ t, runToWaiting n s = .next t ∧ BlockInv t := by
  induction n generalizing s with
  | zero => exact ⟨s, rfl, h⟩
  | succ n ih =>
    rw [runToWaiting]
    split
    · exact ⟨s, rfl, h⟩
    · obtain ⟨u, hu, hinv⟩ := seqStep_keeps_blockInv (timerGap_keeps_blockInv h)
      rw [hu, thenDo_next]
      exact ih hinv

theorem execCmd_keeps_blockInv (b : Byte) {s : State} (h : BlockInv s) :
    ∃ t, execCmd b s = .next t ∧ BlockInv t := by
  obtain ⟨u, hu, hinv⟩ := runToWaiting_keeps_blockInv 12 h
  rw [execCmd, hu, thenDo_next]
  exact runToWaiting_keeps_blockInv 4 (s := u.setOffer (some b)) { hinv with }

theorem half_zero_le (v : Half) : 0#16 ≤ v := Nat.zero_le _

/-- The values of rule R40 meet the invariant, whatever the host's choices and the agents around the block
are. -/
theorem blockInv_reset_with (m k : Period) (offer : Option Byte) (env : Env) (agenda : List Turn) (drawn : Nat)
    (hagenda : ∀ t ∈ agenda, Turn.ofBlock t = true) :
    BlockInv { State.reset with maxDuty := m, maxDuty1k := k, offer := offer, env := env, agenda := agenda,
                                drawn := drawn } := by
  constructor <;> simp [State.reset, half_zero_le]
  exact hagenda

/-- All that an offer of the host's can do: a byte on offer stays, another is put on a free port. -/
theorem hostOffer_eq_setOffer (b : Byte) (s : State) :
    s.hostOffer b = s.setOffer (some (s.offer.getD b)) := by
  rcases hoffer : s.offer with _ | b'
  · simp [State.hostOffer, hoffer]
  · have hsteady : s.setOffer (some b') = s := by rw [← hoffer]; rfl
    simp [State.hostOffer, hoffer, hsteady]

/-- All that a turn of the command loop can do: its own state, and an offer on a free port. -/
theorem loopTurn_eq_setEnv (i : LoopInput) (s : State) :
    ∃ offer env, s.loopTurn i = (s.setOffer offer).setEnv env ∧ (offer = s.offer ∨ s.offer = none) := by
  unfold State.loopTurn
  split
  case h_2 =>
    unfold State.loopConsume
    split <;> split
    · exact ⟨_, _, rfl, .inr (Option.isNone_iff_eq_none.mp ‹_›)⟩
    · exact ⟨s.offer, s.env, rfl, .inl rfl⟩
    · exact ⟨s.offer, _, rfl, .inl rfl⟩
    · exact ⟨s.offer, s.env, rfl, .inl rfl⟩
  all_goals exact ⟨s.offer, _, rfl, .inl rfl⟩

theorem resetBlock_keeps_blockInv {s : State} (h : BlockInv s) : BlockInv s.resetBlock := by
  rw [State.resetBlock, h.nothing_unwritten_read]
  exact blockInv_reset_with _ _ _ _ _ _ h.agenda_block

theorem runMove_keeps_blockInv {s : State} (h : BlockInv s) (m : Move) :
    ∃ t, runMove m s = .next t ∧ BlockInv t := by
  cases m with
  | sequencer =>
    rw [runMove, ← seqStep_eq_runWord]
    exact seqStep_keeps_blockInv h
  | timer e => exact ⟨_, rfl, timerEvent_keeps_blockInv h e⟩
  | offer b =>
    rw [runMove, hostOffer_eq_setOffer]
    exact ⟨_, rfl, { h with }⟩
  | rst => exact ⟨_, rfl, resetBlock_keeps_blockInv h⟩
  | loop i =>
    obtain ⟨offer, env, heq, -⟩ := loopTurn_eq_setEnv i s
    rw [runMove, heq]
    exact ⟨_, rfl, { h with }⟩

theorem powerOn_keeps_blockInv {s : State} (h : BlockInv s) {m k : Nat} (hm : paramOk m = true)
    (hk : paramOk k = true) : ∃ t, s.powerOn m k = .next t ∧ BlockInv t := by
  simp only [paramOk, Bool.and_eq_true, decide_eq_true_eq] at hm hk
  obtain ⟨p, hp, -⟩ := Period.make_in_range hm.1 hm.2
  obtain ⟨q, hq, -⟩ := Period.make_in_range hk.1 hk.2
  exact ⟨_, powerOn_of_periods hp hq s, blockInv_reset_with p q _ _ _ _ h.agenda_block⟩

theorem runTurn_keeps_blockInv {s : State} (h : BlockInv s) {u : Turn} (hu : Turn.ofBlock u = true) :
    ∃ t, runTurn u s = .next t ∧ BlockInv t := by
  cases u with
  | move m => exact runMove_keeps_blockInv h m
  | transaction w => contradiction
  | command b => exact execCmd_keeps_blockInv b h
  | init => exact sequencerRun_keeps_blockInv 8 h
  | powerOn m k =>
    obtain ⟨hm, hk⟩ := Bool.and_eq_true_iff.mp hu
    exact powerOn_keeps_blockInv h hm hk

theorem nextTurn_ofBlock {s : State} (h : BlockInv s) : Turn.ofBlock s.nextTurn = true := by
  unfold State.nextTurn
  split
  case h_1 t rest heq => exact h.agenda_block t (by rw [heq]; exact List.mem_cons_self)
  case h_2 => rfl

theorem afterTurn_keeps_blockInv {s : State} (h : BlockInv s) : BlockInv s.afterTurn := by
  unfold State.afterTurn
  split
  case h_1 t rest heq =>
    exact { h with agenda_block := fun u hu => h.agenda_block u (by rw [heq]; exact List.mem_cons_of_mem t hu) }
  case h_2 => exact { h with }

/-- Settles O43: the next turn is one of a run of the block, and each of those completes and keeps the
invariant. -/
theorem everyStepCompletesAndKeepsTheBlockInvariant :
    Obligations.EveryStepCompletesAndKeepsTheBlockInvariant :=
  fun _ h => runTurn_keeps_blockInv (afterTurn_keeps_blockInv h) (nextTurn_ofBlock h)

/-- Settles O42: the agenda of the reset state is empty. -/
theorem blockInvariantHoldsAtReset : Obligations.BlockInvariantHoldsAtReset :=
  blockInv_reset_with _ _ none Env.start [] 0 fun _ h => absurd h List.not_mem_nil

/-! ### Runs of the block -/

theorem run_keeps_blockInv (n : Nat) {s : State} (h : BlockInv s) :
    ∃ t, Host.Core.run core n s = .next t ∧ BlockInv t := by
  induction n generalizing s with
  | zero => exact ⟨s, rfl, h⟩
  | succ n ih =>
    obtain ⟨u, hu, hinv⟩ := everyStepCompletesAndKeepsTheBlockInvariant s h
    rw [run_of_step core hu]
    exact ih hinv

theorem BlockInv.duties_le {s : State} (h : BlockInv s) (ch : Channel) :
    s.dutySh.get ch ≤ s.maxDuty.ticks ∧ s.dutyAct.get ch ≤ s.maxDuty.ticks := by
  obtain ⟨hsh2, hsh3⟩ := h.shadow_bound
  obtain ⟨hact2, hact3⟩ := h.active_bound
  cases ch with
  | ch1 =>
    have hsh1 : s.dutySh.get .ch1 = 0#16 := h.ch1_shadow
    have hact1 : s.dutyAct.get .ch1 = 0#16 := h.ch1_active
    rw [hsh1, hact1]
    exact ⟨half_zero_le _, half_zero_le _⟩
  | ch2 => exact ⟨hsh2, hact2⟩
  | ch3 => exact ⟨hsh3, hact3⟩

/-- Rule R42 item 5. -/
theorem BlockInv.seq_of_shadows_ne {s : State} (h : BlockInv s) (hne : s.dutySh.ch2 ≠ s.dutySh.ch3) :
    s.seq = 7#4 ∨ s.seq = 11#4 := by
  have hmem : s.seq.toNat ∈ [7, 11] := not_not.mp fun hnot => hne (h.shadows_equal hnot)
  simpa [BitVec.toNat_eq] using hmem

/-- Rule R42 items 2 and 4. -/
theorem BlockInv.at_sWait {s : State} (h : BlockInv s) (hseq : s.seq = 8#4) :
    s.fsel = .f10k ∧ s.en = 0b111#3 ∧ s.dutySh.ch2 = s.dutySh.ch3 ∧ s.dutySh.ch2 = s.dc.val ∧
      s.maxd.val = s.maxDuty.ticks := by
  have hcode : s.seq.toNat = 8 := by rw [hseq]; rfl
  refine ⟨h.fsel_set (by omega), ?_, h.shadows_equal (by simp [hcode]), h.shadow_is_dc (by simp [hcode]),
    h.maxd_value (h.maxd_written (by omega))⟩
  rw [h.en_set, hcode]; rfl

/-- Settles O44: the invariant holds after every number of steps, and says each of the items. -/
theorem channelSynchronyOnEveryRun : Obligations.ChannelSynchronyOnEveryRun := by
  intro turns m k n hturns
  obtain ⟨t, hrun, h⟩ := run_keeps_blockInv n (blockInv_reset_with m k none Env.start turns 0 hturns)
  refine ⟨t, hrun, h.ch1_shadow, h.ch1_active, h.maxd_value, fun hdc => ?_, h.duties_le, h.seq_of_shadows_ne,
    h.nothing_unwritten_read, h.at_sWait⟩
  have hmaxd := h.maxd_before_dc hdc
  exact ⟨hmaxd, h.maxd_value hmaxd ▸ h.dc_bound hdc⟩

/-! ### How SEQ advances (rule R25) -/

/-- A reserved code is refused by name (rules R25, R171). -/
theorem runWord_reserved {c : StepCode} (hc : 12 ≤ c.toNat) (s : State) :
    runWord (.stepCode c) s = .refused (.reservedSeq c) := by
  obtain ⟨n, hn, rfl⟩ : ∃ n < 16, c = BitVec.ofNat 4 n := ⟨c.toNat, c.isLt, by simp⟩
  have hn12 : 12 ≤ n := by rw [BitVec.toNat_ofNat] at hc; omega
  interval_cases n <;> rfl

/-- Settles O37: every step writes its successor, and no code above 11 names a step. -/
theorem seqAdvancesAsTheMicroprogramSays : Obligations.SeqAdvancesAsTheMicroprogramSays := by
  refine ⟨fun s t h => ?_, fun s rest hseq hagenda => ?_⟩
  · have h := seqStep_eq_next.mp h
    generalize s.seq = c at h
    cases h <;> simp [*]
  · rw [step, step_cons hagenda]
    exact runWord_reserved hseq _

/-! ### An offered byte -/

/-- Of the steps, only an S_WAIT that takes the byte ends the offer or writes CB (rules R137, R139). -/
theorem StepEffect.offer_cb {s t : State} {c : StepCode} (h : StepEffect s c t) {b : Byte}
    (hoffer : s.offer = some b) :
    t.offer = some b ∧ t.cb = s.cb ∨
      c = 8#4 ∧ t.offer = none ∧ t.cb = ⟨b, true⟩ ∧ t.seq = 9#4 := by
  cases h with
  | sWaitTakes b' h =>
    obtain rfl : b' = b := Option.some.inj (h.symm.trans hoffer)
    exact .inr ⟨rfl, rfl, rfl, rfl⟩
  | sWaitStays h => rw [h] at hoffer; contradiction
  | _ => exact .inl ⟨hoffer, rfl⟩

/-- Settles O54: of all moves only a sequencer step at S_WAIT touches a byte on offer or CB, but for `rst`,
which clears CB. -/
theorem anOfferedByteIsTakenOnceAndNeverDropped :
    Obligations.AnOfferedByteIsTakenOnceAndNeverDropped := by
  intro m s t b h hoffer
  cases m with
  | sequencer =>
    rcases (runWord_stepCode_eq_next.mp h).offer_cb hoffer with hkept | htaken
    · exact .inl hkept
    · exact .inr ⟨rfl, htaken⟩
  | timer e =>
    cases h
    obtain ⟨c, d, p, heq, -⟩ := timerEvent_eq_setTimer s e
    rw [heq]
    exact .inl ⟨hoffer, rfl⟩
  | offer b' =>
    cases h
    rw [hostOffer_eq_setOffer, hoffer]
    exact .inl ⟨rfl, rfl⟩
  | rst =>
    cases h
    exact .inl ⟨hoffer, rfl⟩
  | loop i =>
    cases h
    obtain ⟨offer, env, heq, rfl | hfree⟩ := loopTurn_eq_setEnv i s
    · rw [heq]
      exact .inl ⟨hoffer, rfl⟩
    · rw [hfree] at hoffer; contradiction

/-! ### What no instruction changes -/

/-- What an instruction other than SETDUTY 1 leaves (rules R30, R113, R123, R166): the enables set, the shadow
of channel 1, the parameters, the environment and the agenda. -/
structure Kept (s t : State) : Prop where
  en : s.en &&& t.en = s.en
  ch1_shadow : t.dutySh.ch1 = s.dutySh.ch1
  maxDuty : t.maxDuty = s.maxDuty
  maxDuty1k : t.maxDuty1k = s.maxDuty1k
  env : t.env = s.env
  agenda : t.agenda = s.agenda

/-- The timer's state and the draws. -/
def TimerKept (s t : State) : Prop := t.dutyAct = s.dutyAct ∧ t.cnt = s.cnt ∧ t.drawn = s.drawn

theorem Kept.refl (s : State) : Kept s s := ⟨BitVec.and_self, rfl, rfl, rfl, rfl, rfl⟩

theorem Kept.trans {s t u : State} (h : Kept s t) (h' : Kept t u) : Kept s u where
  en := by rw [← h.en, BitVec.and_assoc, h'.en]
  ch1_shadow := h'.ch1_shadow.trans h.ch1_shadow
  maxDuty := h'.maxDuty.trans h.maxDuty
  maxDuty1k := h'.maxDuty1k.trans h.maxDuty1k
  env := h'.env.trans h.env
  agenda := h'.agenda.trans h.agenda

theorem kept_setEn_or (s : State) (e : BitVec 3) : Kept s (s.setEn (s.en ||| e)) :=
  { Kept.refl s with en := by ext; simp +contextual }

/-- No step of the microprogram writes what `Kept` names, but for the enables that it sets. -/
theorem StepEffect.kept {s t : State} {c : StepCode} (h : StepEffect s c t) : Kept s t ∧ TimerKept s t := by
  cases h with
  | sEn1 | sEn2 | sEn3 => exact ⟨{ kept_setEn_or s _ with }, rfl, rfl, rfl⟩
  | _ => exact ⟨{ Kept.refl s with }, rfl, rfl, rfl⟩

theorem runToWaiting_kept {n : Nat} {s t : State} (h : runToWaiting n s = .next t) : Kept s t := by
  induction n generalizing s with
  | zero => cases h; exact .refl _
  | succ n ih =>
    rw [runToWaiting] at h
    split at h
    · cases h; exact .refl _
    · obtain ⟨u, hu, hrest⟩ := thenDo_eq_next.mp h
      have hgap : Kept s (timerGap s) := { Kept.refl s with }
      exact (hgap.trans (seqStep_eq_next.mp hu).kept.1).trans (ih hrest)

theorem execCmd_kept {b : Byte} {s t : State} (h : execCmd b s = .next t) : Kept s t := by
  obtain ⟨u, hu, hrest⟩ := thenDo_eq_next.mp h
  have hoffer : Kept u (u.setOffer (some b)) := { Kept.refl u with }
  exact ((runToWaiting_kept hu).trans hoffer).trans (runToWaiting_kept hrest)

theorem kept_of_setDuty {ch : Channel} {v : Half} {s t : State} (hch : ch ≠ .ch1)
    (h : setDuty ch v s = .next t) : Kept s t ∧ TimerKept s t := by
  rw [setDuty_eq_next h]
  cases ch with
  | ch1 => contradiction
  | ch2 | ch3 => exact ⟨{ Kept.refl s with }, rfl, rfl, rfl⟩

theorem kept_of_enableChannel {ch : Channel} {s t : State}
    (h : enableChannel ch s = .next t) : Kept s t ∧ TimerKept s t := by
  rw [enableChannel, memWrite_enable] at h
  cases h
  exact ⟨kept_setEn_or s _, rfl, rfl, rfl⟩

theorem kept_of_exec {i : Instr} {s t : State} (h : exec i s = .next t) (hduty : ∀ v, i ≠ .setduty1 v)
    (hcmd : ∀ b, i ≠ .cmd b) : Kept s t ∧ TimerKept s t := by
  cases i with
  | cmd b => exact absurd rfl (hcmd b)
  | setfreq f =>
    have hnext := (memWrite_fsel f s).symm.trans h
    cases hnext
    exact ⟨{ Kept.refl s with }, rfl, rfl, rfl⟩
  | maxduty => cases h; exact ⟨{ Kept.refl s with }, rfl, rfl, rfl⟩
  | enable1 => exact kept_of_enableChannel (ch := .ch1) h
  | enable2 => exact kept_of_enableChannel (ch := .ch2) h
  | enable3 => exact kept_of_enableChannel (ch := .ch3) h
  | setduty1 v => exact absurd rfl (hduty v)
  | setduty2 v => exact kept_of_setDuty (ch := .ch2) (by decide) h
  | setduty3 v => exact kept_of_setDuty (ch := .ch3) (by decide) h
  | _ => exact (stepEffect_of_exec rfl h).kept

/-- Settles O46: CMD is made of steps and timer events, SETDUTY 1 writes the shadow of channel 1, and every
other instruction leaves all that is named. -/
theorem whatNoInstructionChanges : Obligations.WhatNoInstructionChanges := by
  intro i s t h
  cases i with
  | cmd b =>
    have hkept := execCmd_kept h
    exact ⟨hkept.en, fun _ => hkept.ch1_shadow, hkept.maxDuty, hkept.maxDuty1k, hkept.env, hkept.agenda,
      fun hcmd => absurd rfl (hcmd b)⟩
  | setduty1 v =>
    rw [setDuty_eq_next (ch := .ch1) h]
    exact ⟨BitVec.and_self, fun hduty => absurd rfl (hduty v), rfl, rfl, rfl, rfl, fun _ => ⟨rfl, rfl, rfl⟩⟩
  | _ =>
    obtain ⟨hkept, htimer⟩ := kept_of_exec h (by simp) (by simp)
    exact ⟨hkept.en, fun _ => hkept.ch1_shadow, hkept.maxDuty, hkept.maxDuty1k, hkept.env, hkept.agenda,
      fun _ => htimer⟩

/-! ### Reset -/

/-- Rule R117: with no channel enabled no output is active. -/
theorem pwmOut_of_en_zero {s : State} (h : s.en = 0#3) (ch : Channel) : s.pwmOut ch = false := by
  simp [State.pwmOut, State.enabled, h]

/-- Settles O1: no channel is enabled, so no output is active; each other element is in the definition. -/
theorem resetLeavesRuleR40Values : Obligations.ResetLeavesRuleR40Values :=
  ⟨rfl, rfl, rfl, rfl, rfl, rfl, pwmOut_of_en_zero rfl, rfl, rfl, rfl, rfl, rfl, rfl, rfl⟩

end Sys2Proof.Machine

/-! ## Proofs of the family 20_memory: the PWM register space, an overwritten duty, and the free move -/

namespace Sys2Proof.Machine

/-! ### One channel's duty read and written -/

theorem Duties.set_get (d : Duties) (ch : Channel) : d.set ch (d.get ch) = d := by
  cases ch <;> rfl

theorem Duties.get_set (d : Duties) (ch : Channel) (v : Half) : (d.set ch v).get ch = v := by
  cases ch <;> rfl

theorem Duties.get_set_of_ne (d : Duties) {ch c : Channel} (h : c ≠ ch) (v : Half) :
    (d.set ch v).get c = d.get c := by
  cases ch <;> cases c <;> simp_all [Duties.get]

theorem Duties.set_set (d : Duties) (ch : Channel) (v w : Half) :
    (d.set ch v).set ch w = d.set ch w := by
  cases ch <;> rfl

theorem Duties.set_comm (d : Duties) {ch c : Channel} (h : ch ≠ c) (v w : Half) :
    (d.set ch v).set c w = (d.set c w).set ch v := by
  cases ch <;> cases c <;> simp_all

/-! ### The register space under each write (rules R51, R57, R61) -/

/-- Rules R28 to R31, R51: the content of an address is that of the one register it names. -/
theorem pwmReg_congr {s t : State} {a : RegAddr} (hfsel : a = 0#3 → t.fsel = s.fsel)
    (hperiod : a = 1#3 → t.pwmPeriod = s.pwmPeriod) (hen : a = 2#3 → t.en = s.en)
    (hduty : ∀ ch : Channel, a = ch.dutyAddr → t.dutySh.get ch = s.dutySh.get ch) :
    t.pwmReg a = s.pwmReg a := by
  obtain ⟨n, hn, rfl⟩ : ∃ n < 8, a = BitVec.ofNat 3 n := ⟨a.toNat, a.isLt, by simp⟩
  interval_cases n
  · exact congrArg (fun f => some (Freq.data f)) (hfsel rfl)
  · exact congrArg some (hperiod rfl)
  · exact congrArg (fun e => some (BitVec.zeroExtend 16 e)) (hen rfl)
  · rfl
  · rfl
  · exact congrArg some (hduty .ch1 rfl)
  · exact congrArg some (hduty .ch2 rfl)
  · exact congrArg some (hduty .ch3 rfl)

theorem setFsel_pwmReg (f : Freq) (s : State) {a : RegAddr} (h0 : a ≠ 0#3) (h1 : a ≠ 1#3) :
    (s.setFsel f).pwmReg a = s.pwmReg a :=
  pwmReg_congr (absurd · h0) (absurd · h1) (fun _ => rfl) fun _ _ => rfl

theorem setBusRead_pwmReg (v : Half) (s : State) (a : RegAddr) :
    (s.setBusRead v).pwmReg a = s.pwmReg a := rfl

theorem setEn_pwmReg (e : BitVec 3) (s : State) {a : RegAddr} (h : a ≠ 2#3) :
    (s.setEn e).pwmReg a = s.pwmReg a :=
  pwmReg_congr (fun _ => rfl) (fun _ => rfl) (absurd · h) fun _ _ => rfl

theorem setDutySh_pwmReg (ch : Channel) (v : Half) (s : State) {a : RegAddr} (h : a ≠ ch.dutyAddr) :
    (s.setDutySh ch v).pwmReg a = s.pwmReg a :=
  pwmReg_congr (fun _ => rfl) (fun _ => rfl) (fun _ => rfl) fun _ hc =>
    s.dutySh.get_set_of_ne (fun heq => h (hc.trans (congrArg _ heq))) v

theorem exec_setfreq (f : Freq) (s : State) : exec (.setfreq f) s = .next (s.setFsel f) :=
  memWrite_fsel f s

theorem exec_maxduty (s : State) : exec .maxduty s = .next (s.setBusRead s.pwmPeriod) := rfl

/-- An ENABLE that completes sets its channel's bit (rule R113). -/
theorem enableChannel_eq_next {ch : Channel} {s t : State} (h : enableChannel ch s = .next t) :
    t = s.setEn (s.en ||| ch.enableData.extractLsb' 0 3) := by
  rw [enableChannel, memWrite_enable] at h
  injection h with h
  exact h.symm

theorem pwmReg_of_enableChannel {ch : Channel} {s t : State} {a : RegAddr}
    (h : enableChannel ch s = .next t) (ha : a ≠ 2#3) : t.pwmReg a = s.pwmReg a := by
  rw [enableChannel_eq_next h, setEn_pwmReg _ s ha]

theorem pwmReg_of_setDuty {ch : Channel} {v : Half} {s t : State} {a : RegAddr}
    (h : setDuty ch v s = .next t) (ha : a ≠ ch.dutyAddr) : t.pwmReg a = s.pwmReg a := by
  rw [setDuty_eq_next h, setDutySh_pwmReg ch v s ha]

/-- Settles O22: each transaction is one write of the state, which leaves the other addresses. -/
theorem aWriteLeavesEveryOtherRegister : Obligations.AWriteLeavesEveryOtherRegister := by
  intro s t a
  refine ⟨fun f h h0 h1 => ?_, fun h => ?_, fun h ha => ?_, fun v h => pwmReg_of_setDuty (ch := .ch1) h,
    fun v h => pwmReg_of_setDuty (ch := .ch2) h, fun v h => pwmReg_of_setDuty (ch := .ch3) h⟩
  · rw [exec_setfreq] at h
    cases h
    exact setFsel_pwmReg f s h0 h1
  · cases h
    exact setBusRead_pwmReg _ s a
  · rcases h with h | h | h
    · exact pwmReg_of_enableChannel (ch := .ch1) h ha
    · exact pwmReg_of_enableChannel (ch := .ch2) h ha
    · exact pwmReg_of_enableChannel (ch := .ch3) h ha

/-- Settles O23: the read answers the period of the frequency held, which SETFREQ has just written. -/
theorem maxdutySeesTheLastSetfreq : Obligations.MaxdutySeesTheLastSetfreq := by
  intro f s
  rw [exec_setfreq, thenDo_next, exec_maxduty]
  cases f <;> rfl

/-- The bit that ENABLE sets is the one of rule R30. -/
theorem or_enableData_of_enabled {ch : Channel} {s : State} (h : s.enabled ch = true) :
    s.en ||| ch.enableData.extractLsb' 0 3 = s.en := by
  unfold State.enabled at h
  generalize s.en = e at h ⊢
  cases ch <;> revert e <;> decide

theorem enableChannel_of_enabled {ch : Channel} {s : State} (h : s.enabled ch = true) :
    enableChannel ch s = .next s := by
  rw [enableChannel, memWrite_enable, or_enableData_of_enabled h]
  rfl

theorem setDuty_of_held {ch : Channel} {s : State} (h : s.dutySh.get ch ≤ s.pwmPeriod) :
    setDuty ch (s.dutySh.get ch) s = .next { s with dutyPending := true } := by
  rw [setDuty_in_range ch h, State.setDutySh, Duties.set_get]

/-- Settles O25: each write puts the value held in its place again. -/
theorem writesOfTheHeldValueChangeNothing : Obligations.WritesOfTheHeldValueChangeNothing :=
  fun s => ⟨exec_setfreq s.fsel s, enableChannel_of_enabled (ch := .ch1),
    enableChannel_of_enabled (ch := .ch2), enableChannel_of_enabled (ch := .ch3),
    setDuty_of_held (ch := .ch1), setDuty_of_held (ch := .ch2), setDuty_of_held (ch := .ch3)⟩

/-! ### The free move (rules R60, R120) -/

theorem step_nil {s : State} (h : s.agenda = []) :
    step s = runMove (Config.freeMove s.drawn) s.draw := by
  simp only [step, State.nextTurn, State.afterTurn, h, runTurn]

/-- Settles O9: the step draws, and performs what was drawn. -/
theorem emptyAgendaTakesTheFreeMove : Obligations.EmptyAgendaTakesTheFreeMove :=
  fun _ h => step_nil h

/-! ### States that differ in one shadow duty (rule R66) -/

/-- The second state is the first, but for the shadow duty of the channel and the record of R16 that a write
of it sets (log 24). -/
def SameButDuty (ch : Channel) (s t : State) : Prop :=
  ∃ v p, t = { s with dutySh := s.dutySh.set ch v, dutyPending := p }

/-- Two outcomes that agree but for the shadow duty of the channel: a stop is the same stop. -/
inductive SameOutcomeButDuty (ch : Channel) : Result → Result → Prop
  | next {s t : State} (h : SameButDuty ch s t) : SameOutcomeButDuty ch (.next s) (.next t)
  | fault (f : Fault) : SameOutcomeButDuty ch (.fault f) (.fault f)
  | refused (r : Refusal) : SameOutcomeButDuty ch (.refused r) (.refused r)

theorem SameButDuty.refl (ch : Channel) (s : State) : SameButDuty ch s s :=
  ⟨s.dutySh.get ch, s.dutyPending, by rw [Duties.set_get]⟩

theorem setDutySh_sameButDuty (ch : Channel) (v : Half) (s : State) :
    SameButDuty ch (s.setDutySh ch v) s :=
  ⟨s.dutySh.get ch, s.dutyPending, by simp only [State.setDutySh, Duties.set_set, Duties.set_get]⟩

theorem SameOutcomeButDuty.refl (ch : Channel) (o : Result) : SameOutcomeButDuty ch o o := by
  cases o with
  | next s => exact .next (.refl ch s)
  | fault f => exact .fault f
  | refused r => exact .refused r

/-- The next action keeps the agreement if it does on the states that the first one leaves. -/
theorem SameOutcomeButDuty.thenDo {ch : Channel} {o o' : Result} (h : SameOutcomeButDuty ch o o')
    {k : State → Result}
    (hk : ∀ s t, o = .next s → SameButDuty ch s t → SameOutcomeButDuty ch (k s) (k t)) :
    SameOutcomeButDuty ch (thenDo o k) (thenDo o' k) := by
  cases h with
  | next h => exact hk _ _ rfl h
  | fault f => exact .fault f
  | refused r => exact .refused r

/-! ### What a turn makes of two such states -/

theorem setDuty_out_of_range (ch : Channel) {v : Half} {s : State} (h : s.pwmPeriod < v) :
    setDuty ch v s = .fault (.dutyOutOfRange ch v s.pwmPeriod) :=
  if_pos h

/-- Rule R118: a tick that ends no period counts. -/
theorem tick_within_period {s : State} (h : Turn.isBoundary (.move (.timer .tick)) s = false) :
    tick s = s.setTimer (s.cnt + 1#16) s.dutyAct s.dutyPending :=
  if_neg (of_decide_eq_false h)

/-- Only a byte on the command port names CMD (rules R70, R71). -/
theorem decode_stepCode_ne_cmd (c : StepCode) (b : Byte) : decode (.stepCode c) ≠ .instr (.cmd b) := by
  simp only [decode, decodeStep]
  split <;> simp

theorem decode_transaction_ne_cmd (w : Tx) (b : Byte) : decode (.transaction w) ≠ .instr (.cmd b) := by
  simp only [decode, decodeTransaction]
  split_ifs <;> simp

section
variable {ch : Channel} {s t : State} (h : SameButDuty ch s t)
include h

theorem SameButDuty.pwmPeriod : t.pwmPeriod = s.pwmPeriod := by
  obtain ⟨v, p, rfl⟩ := h
  rfl

/-- A write of the channel's shadow makes the two states one. -/
theorem SameButDuty.setDutySh_eq (w : Half) : t.setDutySh ch w = s.setDutySh ch w := by
  obtain ⟨v, p, rfl⟩ := h
  simp only [State.setDutySh, Duties.set_set]

theorem SameButDuty.setDutySh (c : Channel) (w : Half) :
    SameButDuty ch (s.setDutySh c w) (t.setDutySh c w) := by
  by_cases hc : ch = c
  · subst hc
    rw [h.setDutySh_eq w]
    exact .refl ch _
  · obtain ⟨v, p, rfl⟩ := h
    exact ⟨v, true, by simp only [State.setDutySh, Duties.set_comm _ hc]⟩

/-- The period is the same in both states, so a duty write is out of range in both or in neither. -/
theorem SameButDuty.setDuty_cases (c : Channel) (w : Half) :
    (∃ f, setDuty c w s = .fault f ∧ setDuty c w t = .fault f) ∨
      (setDuty c w s = .next (s.setDutySh c w) ∧ setDuty c w t = .next (t.setDutySh c w)) := by
  rcases Machine.setDuty_cases c w s with ⟨hrange, hs⟩ | ⟨hrange, hs⟩ <;> rw [← h.pwmPeriod] at hrange
  · exact .inl ⟨_, hs, h.pwmPeriod ▸ setDuty_out_of_range c hrange⟩
  · exact .inr ⟨hs, setDuty_in_range c hrange⟩

theorem SameButDuty.setDuty (c : Channel) (w : Half) :
    SameOutcomeButDuty ch (setDuty c w s) (setDuty c w t) := by
  rcases h.setDuty_cases c w with ⟨f, hs, ht⟩ | ⟨hs, ht⟩ <;> rw [hs, ht]
  · exact .fault f
  · exact .next (h.setDutySh c w)

/-- The second write of the channel leaves no trace of the first. -/
theorem SameButDuty.setDuty_eq (w : Half) : Machine.setDuty ch w s = Machine.setDuty ch w t := by
  rcases h.setDuty_cases ch w with ⟨f, hs, ht⟩ | ⟨hs, ht⟩
  · rw [hs, ht]
  · rw [hs, ht, h.setDutySh_eq]

theorem SameButDuty.writeDutyStep {head : BitVec 4} {c : Channel}
    (hissue : ∀ v u, issue (head ++ v) u = Machine.setDuty c v u) (succ : StepCode) :
    SameOutcomeButDuty ch (writeDutyStep head succ s) (writeDutyStep head succ t) := by
  have hread : SameButDuty ch (s.noteRead .dc s.dc.written) (t.noteRead .dc t.dc.written) := by
    obtain ⟨v, p, rfl⟩ := h
    exact ⟨v, p, rfl⟩
  have hdc : t.dc = s.dc := by obtain ⟨v, p, rfl⟩ := h; rfl
  simp only [Machine.writeDutyStep, issueStep, hissue]
  rw [hdc] at hread ⊢
  refine (hread.setDuty c _).thenDo fun s' t' _ h' => ?_
  obtain ⟨v, p, rfl⟩ := h'
  exact .next ⟨v, p, rfl⟩

/-- No instruction but CMD, inside which a boundary may fall, reads the shadows. -/
theorem SameButDuty.exec {i : Instr} (hi : ∀ b, i ≠ .cmd b) :
    SameOutcomeButDuty ch (exec i s) (exec i t) := by
  cases i with
  | cmd b => exact absurd rfl (hi b)
  | setduty1 v => exact h.setDuty .ch1 v
  | setduty2 v => exact h.setDuty .ch2 v
  | setduty3 v => exact h.setDuty .ch3 v
  | sPr2 | sWr2 => exact h.writeDutyStep issue_setduty2 _
  | sPr3 | sWr3 => exact h.writeDutyStep issue_setduty3 _
  | setfreq f =>
    obtain ⟨v, p, rfl⟩ := h
    rw [exec_setfreq, exec_setfreq]
    exact .next ⟨v, p, rfl⟩
  | sWait =>
    show SameOutcomeButDuty ch (execSWait s) (execSWait t)
    obtain ⟨v, p, rfl⟩ := h
    unfold execSWait
    dsimp only
    split <;> exact .next ⟨v, p, rfl⟩
  | _ =>
    obtain ⟨v, p, rfl⟩ := h
    exact .next ⟨v, p, rfl⟩

theorem SameButDuty.runWord {w : CodeWord} (hw : ∀ b, decode w ≠ .instr (.cmd b)) :
    SameOutcomeButDuty ch (runWord w s) (runWord w t) := by
  unfold Machine.runWord
  rcases hi : decode w with i | r | r
  · exact h.exec fun b hb => hw b (hb ▸ hi)
  · exact .refused _
  · exact .refused _

theorem SameButDuty.loopTurn (i : LoopInput) : SameButDuty ch (s.loopTurn i) (t.loopTurn i) := by
  obtain ⟨v, p, rfl⟩ := h
  refine ⟨v, p, ?_⟩
  unfold State.loopTurn State.loopConsume
  dsimp only
  split
  · rfl
  · split <;> split <;> rfl
  · rfl
  · rfl

theorem SameButDuty.timerEvent {e : TimerEvent} (he : Turn.isBoundary (.move (.timer e)) s = false) :
    SameButDuty ch (timerEvent s e) (timerEvent t e) := by
  have ht : Turn.isBoundary (.move (.timer e)) t = false := by obtain ⟨v, p, rfl⟩ := h; exact he
  cases e with
  | pbound => contradiction
  | tick =>
    rw [Machine.timerEvent, Machine.timerEvent, tick_within_period he, tick_within_period ht]
    obtain ⟨v, p, rfl⟩ := h
    exact ⟨v, p, rfl⟩

theorem SameButDuty.runMove {m : Move} (hm : Turn.isBoundary (.move m) s = false) :
    SameOutcomeButDuty ch (runMove m s) (runMove m t) := by
  cases m with
  | sequencer =>
    have hseq : t.seq = s.seq := by obtain ⟨v, p, rfl⟩ := h; rfl
    rw [Machine.runMove, Machine.runMove, hseq]
    exact h.runWord (decode_stepCode_ne_cmd s.seq)
  | timer e => exact .next (h.timerEvent hm)
  | offer b =>
    obtain ⟨v, p, rfl⟩ := h
    rw [Machine.runMove, Machine.runMove, hostOffer_eq_setOffer, hostOffer_eq_setOffer]
    exact .next ⟨v, p, rfl⟩
  | rst =>
    obtain ⟨v, p, rfl⟩ := h
    exact .refl ch _
  | loop i => exact .next (h.loopTurn i)

theorem SameButDuty.runTurn {u : Turn} (hu : Turn.mayCrossBoundary u s = false) :
    SameOutcomeButDuty ch (runTurn u s) (runTurn u t) := by
  cases u with
  | move m => exact h.runMove hu
  | transaction w => exact h.runWord (decode_transaction_ne_cmd w)
  | command b | init => contradiction
  | powerOn m k =>
    obtain ⟨v, p, rfl⟩ := h
    exact .refl ch _

end

theorem SameButDuty.runTurns {ch : Channel} {us : List Turn} {s t : State} (h : SameButDuty ch s t)
    (hus : NoBoundary us s) : SameOutcomeButDuty ch (runTurns us s) (runTurns us t) := by
  induction us generalizing s t with
  | nil => exact .next h
  | cons u us ih =>
    obtain ⟨hu, hrest⟩ := hus
    exact (h.runTurn hu).thenDo fun s' t' hs' h' => ih h' (hrest s' hs')

/-! ### The second write (rule R66) -/

theorem SameOutcomeButDuty.then_setduty {ch : Channel} {o o' : Result}
    (h : SameOutcomeButDuty ch o o') (w : Half) :
    Machine.thenDo o (exec (Instr.setduty ch w)) = Machine.thenDo o' (exec (Instr.setduty ch w)) := by
  cases h with
  | next h => simp only [thenDo_next, exec_setduty, h.setDuty_eq]
  | fault | refused => rfl

theorem pbound_after_setduty {ch : Channel} {w : Half} {s t : State}
    (h : exec (Instr.setduty ch w) s = .next t) : (pbound t).dutyAct.get ch = w := by
  rw [exec_setduty] at h
  rw [setDuty_eq_next h]
  exact s.dutySh.get_set ch w

/-- Settles O24: until the second write the two runs differ in the shadow duty alone, which nothing but a
period boundary reads. -/
theorem overwrittenDutyNeverBecomesActive : Obligations.OverwrittenDutyNeverBecomesActive := by
  intro ch v w s us hv
  refine ⟨s.setDutySh ch v, (exec_setduty ch v s).trans (setDuty_in_range ch hv), fun hus => ?_⟩
  have hsame := (setDutySh_sameButDuty ch v s).runTurns hus
  refine ⟨hsame.then_setduty w, fun t ht => ?_, fun t ht => ?_⟩
  · rw [ht] at hsame
    generalize runTurns us s = o at hsame
    cases hsame with
    | next h =>
      obtain ⟨v', p, rfl⟩ := h
      exact ⟨_, rfl, rfl, fun _ => rfl⟩
  · obtain ⟨t', -, hwrite⟩ := thenDo_eq_next.mp ht
    exact pbound_after_setduty hwrite

end Sys2Proof.Machine

/-! ## Proofs of the family 30_encoding: the decoder and the encoder agree, the reserved words of rule R79, and the
fetch of an instruction -/

namespace Sys2Proof

/-! ### Encode, then decode (rules R71, R74, R76) -/

/-- Settles O5: the duty of a SETDUTY is carried whole in the DATA field that the decoder reads, a byte is its own
CMD, and each of the other words is decoded as it stands. -/
theorem decodeOfEncodeIsTheInstruction : Obligations.DecodeOfEncodeIsTheInstruction := by
  intro i
  cases i with
  | setfreq f => cases f <;> rfl
  | setduty1 v | setduty2 v | setduty3 v => simp [encode, decode, decodeTransaction_mk]
  | _ => rfl

/-! ### Decode, then encode (rule R85) -/

/-- Each row of rule R74 fixes every bit of the word but those its operand carries. -/
theorem encode_of_decodeTransaction {w : Tx} {i : Instr} (h : decodeTransaction w = .instr i) :
    encode i = .transaction w := by
  rw [← Tx.mk_fields w] at h ⊢
  generalize Tx.write w = b, Tx.addr w = a, Tx.data w = d at h ⊢
  rw [decodeTransaction_mk] at h
  split_ifs at h with hsetfreq hmaxduty hen1 hen2 hen3 hduty1 hduty2 hduty3 <;> cases h
  · obtain ⟨rfl, rfl, hdata⟩ := hsetfreq
    rw [encode, Freq.data_ofBit d hdata]
  · obtain ⟨rfl, rfl, rfl⟩ := hmaxduty; rfl
  · obtain ⟨rfl, rfl, rfl⟩ := hen1; rfl
  · obtain ⟨rfl, rfl, rfl⟩ := hen2; rfl
  · obtain ⟨rfl, rfl, rfl⟩ := hen3; rfl
  · obtain ⟨rfl, rfl⟩ := hduty1; rfl
  · obtain ⟨rfl, rfl⟩ := hduty2; rfl
  · obtain ⟨rfl, rfl⟩ := hduty3; rfl

theorem encode_of_decodeStep {c : StepCode} {i : Instr} (h : decodeStep c = .instr i) :
    encode i = .stepCode c := by
  obtain ⟨n, hn, rfl⟩ : ∃ n < 16, c = BitVec.ofNat 4 n := ⟨c.toNat, c.isLt, by simp⟩
  interval_cases n <;> cases h <;> rfl

/-- Settles O6: format by format, every byte being a CMD. -/
theorem everyDecodedWordIsTheEncoding : Obligations.EveryDecodedWordIsTheEncoding := by
  intro w i h
  cases w with
  | command b => cases h; rfl
  | transaction w => exact encode_of_decodeTransaction h
  | stepCode c => exact encode_of_decodeStep h

/-! ### The reserved transaction words (rule R79) -/

/-- The list of rule R79 with the two conditions on a read taken together. -/
theorem Tx.reserved_iff (w : Tx) : Tx.reserved w = true ↔
    (Tx.addr w = 3#3 ∨ Tx.addr w = 4#3 ∨
      (Tx.write w = true ∧ Tx.addr w = 1#3) ∨
      (Tx.write w = false ∧ (Tx.addr w ≠ 1#3 ∨ Tx.data w ≠ 0#16)) ∨
      (Tx.write w = true ∧ Tx.addr w = 0#3 ∧ (Tx.data w).extractLsb' 1 15 ≠ 0#15) ∨
      (Tx.write w = true ∧ Tx.addr w = 2#3 ∧
        Tx.data w ≠ 1#16 ∧ Tx.data w ≠ 2#16 ∧ Tx.data w ≠ 4#16)) := by
  simp [Tx.reserved, and_or_left, or_assoc, and_assoc]

/-- Rules R78, R79, R85: a word that encodes an instruction is not reserved. -/
theorem not_reserved_of_encode {w : Tx} {i : Instr} (h : encode i = .transaction w) :
    Tx.reserved w = false := by
  have hwf : (encode i).wf = true := by
    cases i with
    | setfreq f => exact Laws.EncodeLegal.setfreq f
    | setduty1 v => exact Laws.EncodeLegal.setduty1 v
    | setduty2 v => exact Laws.EncodeLegal.setduty2 v
    | setduty3 v => exact Laws.EncodeLegal.setduty3 v
    | _ => rfl
  rw [h] at hwf
  simpa [CodeWord.wf] using hwf

/-- Rule R75: where `DATA[15:1]` is zero only the bit that names the frequency is left. -/
theorem data_of_high_bits_zero {d : Half} (h : d.extractLsb' 1 15 = 0#15) : d &&& 0xFFFE#16 = 0#16 := by
  have hhigh : d.toNat / 2 % 32768 = 0 := by
    simpa [BitVec.extractLsb'_toNat, Nat.shiftRight_eq_div_pow] using congrArg BitVec.toNat h
  obtain rfl | rfl : d = 0#16 ∨ d = 1#16 := by bv_omega
  · rfl
  · rfl

/-- The converse: rule R79 leaves to each address the words of its rows of rule R74. -/
theorem exists_encode_of_not_reserved {w : Tx} (h : Tx.reserved w = false) :
    ∃ i, encode i = .transaction w := by
  rw [← Tx.mk_fields w] at h ⊢
  generalize Tx.write w = write, Tx.addr w = a, Tx.data w = d at h ⊢
  cases write with
  | false =>
    obtain ⟨-, -, rfl, rfl⟩ : _ ∧ _ ∧ a = 1#3 ∧ d = 0#16 := by simpa [Tx.reserved, and_assoc] using h
    exact ⟨.maxduty, rfl⟩
  | true =>
    obtain ⟨n, hn, rfl⟩ : ∃ n < 8, a = BitVec.ofNat 3 n := ⟨a.toNat, a.isLt, by simp⟩
    interval_cases n
    · have hhigh : d.extractLsb' 1 15 = 0#15 := by simpa [Tx.reserved] using h
      exact ⟨.setfreq (Freq.ofBit (d.getLsbD 0)), by
        rw [encode, Freq.data_ofBit d (data_of_high_bits_zero hhigh)]⟩
    · simp [Tx.reserved] at h
    · obtain (rfl | rfl) | rfl : (d = 1#16 ∨ d = 2#16) ∨ d = 4#16 := by
        simpa [Tx.reserved, or_iff_not_imp_left] using h
      · exact ⟨.enable1, rfl⟩
      · exact ⟨.enable2, rfl⟩
      · exact ⟨.enable3, rfl⟩
    · simp [Tx.reserved] at h
    · simp [Tx.reserved] at h
    · exact ⟨.setduty1 d, rfl⟩
    · exact ⟨.setduty2 d, rfl⟩
    · exact ⟨.setduty3 d, rfl⟩

/-- A word that no row takes is handed back. -/
theorem decodeTransaction_cases (w : Tx) :
    (∃ i, decodeTransaction w = .instr i) ∨ decodeTransaction w = .reservedTransaction w := by
  unfold decodeTransaction
  split_ifs <;> simp

theorem decode_eq_reservedTransaction_iff {w : Tx} :
    decode (.transaction w) = .reservedTransaction w ↔ Tx.reserved w = true := by
  constructor
  · intro h
    by_contra hreserved
    obtain ⟨i, hi⟩ := exists_encode_of_not_reserved (Bool.eq_false_of_not_eq_true hreserved)
    rw [← hi, decodeOfEncodeIsTheInstruction i] at h
    contradiction
  · intro h
    rcases decodeTransaction_cases w with ⟨i, hi⟩ | hreserved
    · rw [not_reserved_of_encode (encode_of_decodeTransaction hi)] at h
      contradiction
    · exact hreserved

end Sys2Proof

namespace Sys2Proof.Machine

/-! ### The words of the microprogram, and the encodings of rule R84 -/

/-- A step issues a word of a row of rule R74, or none (rules R131 to R140). -/
theorem not_reserved_of_txWord {s : State} {w : Tx} (h : s.txWord = some w) : Tx.reserved w = false := by
  unfold State.txWord at h
  split at h <;> cases h
  case h_6 | h_8 => exact not_reserved_of_encode (i := .setduty2 s.dc.val) rfl
  case h_7 | h_9 => exact not_reserved_of_encode (i := .setduty3 s.dc.val) rfl
  all_goals rfl

/-- Settles O7: the decoder hands back exactly the words of R79's list, and the microprogram issues encodings. -/
theorem reservedTransactionWordsAreTheListedOnes : Obligations.ReservedTransactionWordsAreTheListedOnes := by
  refine ⟨fun w => decode_eq_reservedTransaction_iff.trans (Tx.reserved_iff w), fun w s h => ?_,
    fun s w => not_reserved_of_txWord⟩
  rw [runWord, decode_eq_reservedTransaction_iff.mpr h]

/-- Settles O4: each word that decodes is the encoding of its operation, the other two are on R79's list. -/
theorem workedEncodingsDecode : Obligations.WorkedEncodingsDecode :=
  ⟨decodeOfEncodeIsTheInstruction (.cmd 128#8), decodeOfEncodeIsTheInstruction (.setfreq .f10k),
    decodeOfEncodeIsTheInstruction .maxduty, decodeOfEncodeIsTheInstruction .enable3,
    decodeOfEncodeIsTheInstruction (.setduty2 636#16), decodeOfEncodeIsTheInstruction (.setduty3 960#16),
    decode_eq_reservedTransaction_iff.mpr rfl, decode_eq_reservedTransaction_iff.mpr rfl,
    decodeOfEncodeIsTheInstruction .sWr3⟩

/-! ### Fetch (rule R70) -/

theorem runWord_of_decode {w : CodeWord} {i : Instr} (h : decode w = .instr i) (s : State) :
    runWord w s = exec i s := by
  rw [runWord, h]

/-- Settles O8: in each of the three turns the step runs the word at its place of travel. -/
theorem stepRunsTheDecodedInstruction : Obligations.StepRunsTheDecodedInstruction :=
  fun _ _ _ => ⟨fun hagenda hdecode => (step_cons hagenda).trans (runWord_of_decode hdecode _),
    fun _ hagenda hdecode => (step_cons hagenda).trans (runWord_of_decode hdecode _),
    fun _ hagenda hdecode => (step_cons hagenda).trans (runWord_of_decode hdecode _)⟩

end Sys2Proof.Machine

/-! ## Proofs of the family 40_mapper: rounding, QMAP, F2D and the duty table -/

namespace Sys2Proof

/-! ### A rounded result is nearest to the exact one (rule R91) -/

/-- The sentence of rule R91 about one result `x` of the exact value `n / d`, in units: no finite value is
nearer, and where another is equally near, the last bit of `x` is 0. -/
def F32.IsNearest (x : F32) (n d : Int) : Prop :=
  ∀ q : F32, F32.isFinite q = true →
    (F32.units x * d - n).natAbs ≤ (F32.units q * d - n).natAbs ∧
      ((F32.units x * d - n).natAbs = (F32.units q * d - n).natAbs →
        F32.units q = F32.units x ∨ x.getLsbD 0 = false)

theorem F32.getLsbD_zero_of_magnitude_even {x : F32} (h : F32.magnitude x % 2 = 0) :
    x.getLsbD 0 = false := by
  have hx : x.toNat % 2 = 0 := by unfold F32.magnitude at h; omega
  simp [BitVec.getLsbD, Nat.testBit_zero, hx]

/-- Two numbers of one sign are as far apart as their magnitudes, others further. -/
theorem natAbs_sub_of_mul_nonneg {u v : Int} (h : 0 ≤ u * v) :
    (u - v).natAbs = ((u.natAbs : Int) - v.natAbs).natAbs := by
  rcases mul_nonneg_iff.mp h with ⟨hu, hv⟩ | ⟨hu, hv⟩ <;> omega

theorem natAbs_sub_natAbs_le (u v : Int) : ((u.natAbs : Int) - v.natAbs).natAbs ≤ (u - v).natAbs := by
  omega

theorem eq_zero_or_of_natAbs_sub_eq {u v : Int} (h : (u - v).natAbs = (-u - v).natAbs) : u = 0 ∨ v = 0 := by
  omega

/-- A finite result that has the sign of the exact value `n / d`, and its magnitude rounded, is nearest to it:
no value of the other sign is nearer than the one of the same magnitude. -/
theorem F32.isNearest_of_magnitude {x : F32} {n d : Int} (hd : d ≠ 0) (hfin : F32.isFinite x = true)
    (hmag : F32.magnitude x = F32.roundMagnitude n.natAbs d.natAbs) (hsign : 0 ≤ F32.units x * d * n) :
    F32.IsNearest x n d := by
  intro q _
  have hd' : 0 < d.natAbs := Int.natAbs_pos.mpr hd
  obtain ⟨hle, htie⟩ := F32.roundMagnitude_nearest n.natAbs d.natAbs (F32.magnitude q) hd'
    (hmag ▸ of_decide_eq_true hfin)
  rw [← hmag, ← F32.natAbs_units, ← F32.natAbs_units, ← Int.natAbs_mul, ← Int.natAbs_mul] at hle htie
  have hx := natAbs_sub_of_mul_nonneg hsign
  have hq := natAbs_sub_natAbs_le (F32.units q * d) n
  refine ⟨hx.le.trans (hle.trans hq), fun heq => ?_⟩
  rcases htie (hle.antisymm (hq.trans (heq.symm.trans hx).le)) with hsame | heven
  · have hunits : (F32.units q).natAbs = (F32.units x).natAbs := by
      rw [F32.natAbs_units, F32.natAbs_units, hsame]
    rcases Int.natAbs_eq_natAbs_iff.mp hunits with heq' | hopp
    · exact .inl heq'
    · rw [hopp, Int.neg_mul] at heq
      rcases eq_zero_or_of_natAbs_sub_eq heq with hzero | rfl
      · have hx0 := (Int.mul_eq_zero.mp hzero).resolve_right hd
        exact .inl (by rw [hopp, hx0, neg_zero])
      · refine .inr (F32.getLsbD_zero_of_magnitude_even ?_)
        rw [hmag, F32.roundMagnitude_exact (q := 0) hd' (by decide) (by simp [F32.magnitudeUnits])]
  · exact .inr (F32.getLsbD_zero_of_magnitude_even heven)

theorem F32.units_nonneg_of_sign_false {x : F32} (h : F32.sign x = false) : 0 ≤ F32.units x := by
  simp [F32.units, h]

theorem F32.units_nonpos_of_sign_true {x : F32} (h : F32.sign x = true) : F32.units x ≤ 0 := by
  simp [F32.units, h]

theorem F32.units_pack_decide_mul_nonneg (n : Int) (m : Nat) :
    0 ≤ F32.units (F32.pack (decide (n < 0)) m) * n := by
  rcases lt_or_ge n 0 with hn | hn
  · exact mul_nonneg_of_nonpos_of_nonpos (F32.units_nonpos_of_sign_true (by simp [hn])) hn.le
  · exact mul_nonneg (F32.units_nonneg_of_sign_false (by simp [hn])) hn

/-- The sign of a product or a quotient is the sign of the exact one. -/
theorem F32.units_pack_bne_mul_nonneg (a b : F32) (m : Nat) :
    0 ≤ F32.units (F32.pack (F32.sign a != F32.sign b) m) * (F32.units a * F32.units b) := by
  unfold F32.units
  rw [F32.sign_pack]
  cases F32.sign a <;> cases F32.sign b <;> simp <;> positivity

/-- The sum of finite operands is the exact one, rounded once, with its sign where it is not zero. -/
theorem fadd_of_finite {a b : F32} (ha : F32.isFinite a = true) (hb : F32.isFinite b = true) :
    F32.magnitude (fadd a b) = F32.roundMagnitude (F32.units a + F32.units b).natAbs 1 ∧
      0 ≤ F32.units (fadd a b) * (F32.units a + F32.units b) := by
  obtain ⟨han, hai⟩ := F32.not_nan_not_inf ha
  obtain ⟨hbn, hbi⟩ := F32.not_nan_not_inf hb
  simp only [fadd_eq, F32.add, han, hai, hbn, hbi, Bool.or_self, Bool.false_eq_true, if_false]
  split
  · next hsum => exact ⟨by rw [hsum, F32.magnitude_pack _ (Nat.zero_le _)]; rfl, by simp [hsum]⟩
  · exact ⟨F32.magnitude_pack_round .., F32.units_pack_decide_mul_nonneg ..⟩

theorem fadd_isNearest {a b : F32} (ha : F32.isFinite a = true) (hb : F32.isFinite b = true)
    (hfin : F32.isFinite (fadd a b) = true) :
    F32.IsNearest (fadd a b) (F32.units a + F32.units b) 1 := by
  obtain ⟨hmag, hsign⟩ := fadd_of_finite ha hb
  exact F32.isNearest_of_magnitude one_ne_zero hfin hmag (by rwa [mul_one])

theorem fmul_isNearest {a b : F32} (ha : F32.isFinite a = true) (hb : F32.isFinite b = true)
    (hfin : F32.isFinite (fmul a b) = true) :
    F32.IsNearest (fmul a b) (F32.units a * F32.units b) (2 ^ 149) := by
  refine F32.isNearest_of_magnitude (by positivity) hfin ?_ ?_
  · rw [fmul_of_finite ha hb, F32.magnitude_pack_round, Int.natAbs_mul, Int.natAbs_pow, F32.natAbs_units,
      F32.natAbs_units]
    rfl
  · rw [mul_right_comm, fmul_of_finite ha hb]
    exact mul_nonneg (F32.units_pack_bne_mul_nonneg ..) (by positivity)

theorem fdiv_isNearest {a b : F32} (ha : F32.isFinite a = true) (hb : F32.isFinite b = true)
    (hz : F32.isZero b = false) (hfin : F32.isFinite (fdiv a b) = true) :
    F32.IsNearest (fdiv a b) (F32.units a * 2 ^ 149) (F32.units b) := by
  refine F32.isNearest_of_magnitude ?_ hfin ?_ ?_
  · have hpos := F32.magnitudeUnits_strictMono (Nat.pos_of_ne_zero (of_decide_eq_false hz))
    have := F32.natAbs_units b
    omega
  · rw [fdiv_of_finite ha hb hz, F32.magnitude_pack_round, Int.natAbs_mul, Int.natAbs_pow, F32.natAbs_units,
      F32.natAbs_units]
    rfl
  · have hswap : F32.units (fdiv a b) * F32.units b * (F32.units a * 2 ^ 149) =
        F32.units (fdiv a b) * (F32.units a * F32.units b) * 2 ^ 149 := by ring
    rw [hswap, fdiv_of_finite ha hb hz]
    exact mul_nonneg (F32.units_pack_bne_mul_nonneg ..) (by positivity)

/-- Settles O10: the result of each operation is its exact value, rounded once. -/
theorem floatOperationsRoundToNearestEven : Obligations.FloatOperationsRoundToNearestEven := by
  intro a b ha hb
  refine ⟨fun hfin => ?_, fmul_isNearest ha hb, fdiv_isNearest ha hb⟩
  simpa only [F32.IsNearest, mul_one] using fadd_isNearest ha hb hfin

/-! ### NaN, infinity and overflow in QMAP (rules R95, R97) -/

theorem isNaN_fmul {a b : F32} (h : F32.isNaN a = true ∨ F32.isNaN b = true) : F32.isNaN (fmul a b) = true := by
  rw [fmul_eq, F32.mul, if_pos (by simpa using h), F32.isNaN_nan]

theorem isNaN_fadd {a b : F32} (h : F32.isNaN a = true ∨ F32.isNaN b = true) : F32.isNaN (fadd a b) = true := by
  rw [fadd_eq, F32.add, if_pos (by simpa using h), F32.isNaN_nan]

/-- The additions and the last product of QMAP keep a NaN. -/
theorem isNaN_qmap_of_sum {r : F32} (h : F32.isNaN (fadd (fmul kA (fmul r r)) (fmul kB r)) = true) :
    F32.isNaN (qmap r) = true :=
  isNaN_fmul (.inl (isNaN_fadd (.inl h)))

theorem isNaN_qmap {r : F32} (h : F32.isNaN r = true) : F32.isNaN (qmap r) = true :=
  isNaN_qmap_of_sum (isNaN_fadd (.inr (isNaN_fmul (.inr h))))

/-- Rule R97: at +infinity QMAP adds infinities of both signs. -/
theorem isNaN_qmap_posInf : F32.isNaN (qmap 0x7F800000#32) = true := by
  refine isNaN_qmap_of_sum ?_
  have hquad : fmul kA (fmul 0x7F800000#32 0x7F800000#32) = 0xFF800000#32 := by decide
  have hlin : fmul kB 0x7F800000#32 = 0x7F800000#32 := by decide
  rw [hquad, hlin, fadd_eq]
  exact F32.isNaN_nan ..

/-- The factor `kB` is below 1, so the linear term of QMAP does not overflow. -/
theorem isFinite_fmul_kB {r : F32} (h : F32.isFinite r = true) : F32.isFinite (fmul kB r) = true := by
  have hr : F32.magnitude r < F32.infMagnitude := of_decide_eq_true h
  have hkB : F32.magnitudeUnits (F32.magnitude kB) ≤ 2 ^ 149 := by decide
  refine F32.isFinite_of_magnitude_le (q := F32.magnitude r) ?_ hr
  rw [fmul_of_finite (by decide) h, F32.magnitude_pack_round]
  refine F32.roundMagnitude_le (by decide) ?_
  rw [Nat.mul_comm]
  exact Nat.mul_le_mul_left _ hkB

theorem fadd_negInf_of_finite {b : F32} (h : F32.isFinite b = true) :
    fadd 0xFF800000#32 b = 0xFF800000#32 := by
  obtain ⟨hnan, hinf⟩ := F32.not_nan_not_inf h
  have hneg : F32.isNaN 0xFF800000#32 = false ∧ F32.isInf 0xFF800000#32 = true := by decide
  simp [fadd_eq, F32.add, hnan, hinf, hneg]

/-- Rule R97: where the square overflows, the quadratic term decides, and `kA` is negative. -/
theorem qmap_of_square_overflow {r : F32} (hr : F32.isFinite r = true) (hsq : fmul r r = 0x7F800000#32) :
    qmap r = 0xFF800000#32 := by
  have hquad : fmul kA 0x7F800000#32 = 0xFF800000#32 := by decide
  have hscale : fmul 0xFF800000#32 k6 = 0xFF800000#32 := by decide
  rw [qmap, hsq, hquad, fadd_negInf_of_finite (isFinite_fmul_kB hr), fadd_negInf_of_finite (by decide), hscale]

/-- Settles O13: the named readings are evaluated; a NaN and an overflowed square pass through the six
operations by their own rules. -/
theorem qmapCornerCases : Obligations.QmapCornerCases :=
  ⟨by decide, by decide, by decide, by decide, by decide, by decide, isNaN_qmap_posInf, by decide,
    fun _ => isNaN_qmap, fun _ => qmap_of_square_overflow⟩

/-- Settles O12: closed computations of the six operations. -/
theorem qmapOfTheDefaultReading : Obligations.QmapOfTheDefaultReading :=
  ⟨by decide, by decide, by decide, by decide, by decide, by decide, by decide⟩

/-! ### F2D (rule R98) -/

theorem f2d_nan {x : F32} (h : F32.isNaN x = true) (m : Half) : f2d x m = 0#16 := by
  rw [f2d_eq, F32.toDuty, if_pos h]

theorem f2d_posInf (m : Half) : f2d 0x7F800000#32 m = m := by
  rw [f2d_eq]; rfl

theorem f2d_negInf (m : Half) : f2d 0xFF800000#32 m = 0#16 := by
  rw [f2d_eq]; rfl

theorem f2d_of_finite {x : F32} (h : F32.isFinite x = true) (m : Half) :
    ((f2d x m).toNat : Int) = min (max (F32.trunc x) 0) m.toNat := by
  obtain ⟨hnan, hinf⟩ := F32.not_nan_not_inf h
  have := m.isLt
  simp only [f2d_eq, F32.toDuty, hnan, hinf, Bool.false_eq_true, if_false, BitVec.toNat_ofNat]
  omega

theorem F32.trunc_of_nonneg {x : F32} (h : 0 ≤ F32.units x) :
    F32.trunc x * 2 ^ 149 ≤ F32.units x ∧ F32.units x < (F32.trunc x + 1) * 2 ^ 149 := by
  rw [F32.trunc, Int.tdiv_eq_ediv_of_nonneg h]
  omega

theorem F32.trunc_of_neg {x : F32} (h : F32.units x < 0) :
    (F32.trunc x - 1) * 2 ^ 149 < F32.units x ∧ F32.units x ≤ F32.trunc x * 2 ^ 149 := by
  have hneg : F32.trunc x = -((-F32.units x) / 2 ^ 149) := by
    rw [F32.trunc, ← Int.tdiv_eq_ediv_of_nonneg (by omega), Int.neg_tdiv, neg_neg]
  rw [hneg]
  omega

/-- Settles O14: the integer is the truncation of the model, and a finite value's duty is that, clamped. -/
theorem f2dTruncatesThenClamps : Obligations.F2dTruncatesThenClamps :=
  fun x m => ⟨fun h => f2d_nan h m, f2d_posInf m, f2d_negInf m,
    fun h => ⟨F32.trunc x, F32.trunc_of_nonneg, F32.trunc_of_neg, f2d_of_finite h m⟩, Machine.f2d_le x m⟩

/-- Rules R98, R103: a bound below 65535 only clamps the unclamped duty. -/
theorem f2d_eq_min_unclamped (x : F32) (m : Half) :
    (f2d x m).toNat = min (f2d x 65535#16).toNat m.toNat := by
  have hm := m.isLt
  have hmax : (65535#16).toNat = 65535 := rfl
  rcases F32.class_cases x with ⟨h, -, -⟩ | ⟨hnan, hinf, -⟩ | ⟨-, -, h⟩
  · rw [f2d_nan h, f2d_nan h]
    exact (Nat.zero_min _).symm
  · simp only [f2d_eq, F32.toDuty, hnan, hinf, Bool.false_eq_true, if_true, if_false]
    split
    · exact (Nat.zero_min _).symm
    · omega
  · have hbound := f2d_of_finite h m
    have hfree := f2d_of_finite h 65535#16
    omega

/-! ### The duty table (rules R100 to R104) -/

/-- `DTAB` of rule R103. -/
def dutyTable (b : Nat) : Nat := (3119848347 + 53214420 * b - 43200 * b * b) / 14450000

/-- Rule R103: the binary32 computation of each of the 256 duties, evaluated, as the rule derives the table. -/
theorem mapB_unclamped : ∀ b : Byte, (mapB b 65535#16).toNat = dutyTable b.toNat := by
  decide +kernel

theorem mapB_toNat (b : Byte) (m : Half) : (mapB b m).toNat = min (dutyTable b.toNat) m.toNat := by
  rw [← mapB_unclamped, mapB_eq, mapB_eq, f2d_eq_min_unclamped]

theorem mapD_toNat (m : Half) : (mapD m).toNat = min 636 m.toNat := by
  have hfree : (f2d (qmap kRdef) 65535#16).toNat = 636 := by decide
  rw [mapD_eq, f2d_eq_min_unclamped, hfree]

/-- Settles O15: the table is evaluated once, without a clamp, and a bound only clamps it. -/
theorem dutyTableIsTheExactQuadratic : Obligations.DutyTableIsTheExactQuadratic := mapB_toNat

/-- One byte more is more than one unit of duty more: the slope of the quadratic is above 1 up to byte 255. -/
theorem dutyTable_strictMonoOn : StrictMonoOn dutyTable (Set.Iio 256) := by
  intro b hb c hc hlt
  obtain ⟨k, rfl⟩ : ∃ k, c = b + k := ⟨c - b, by omega⟩
  rw [Set.mem_Iio] at hb hc
  have hsquare : (b + k) * (b + k) = b * b + k * (2 * b + k) := by ring
  have hslope : k * (2 * b + k) ≤ k * 510 := Nat.mul_le_mul_left k (by omega)
  have hpos : b * b ≤ b * 255 := Nat.mul_le_mul_left b (by omega)
  simp only [dutyTable, Nat.mul_assoc, hsquare]
  omega

theorem dutyTable_bounds {b : Nat} (h : b < 256) : 215 ≤ dutyTable b ∧ dutyTable b ≤ 960 := by
  have hmono := dutyTable_strictMonoOn.monotoneOn
  exact ⟨hmono (a := 0) (by decide) h (Nat.zero_le b), hmono (b := 255) h (by decide) (by omega)⟩

/-- The default duty lies between those of two neighbouring bytes (rule R104). -/
theorem dutyTable_ne_default {b : Nat} (h : b < 256) : dutyTable b ≠ 636 := by
  have hmono := dutyTable_strictMonoOn.monotoneOn
  rcases Nat.lt_or_ge b 128 with hlow | hhigh
  · have : dutyTable b ≤ 635 := hmono (b := 127) h (by decide) (by omega)
    omega
  · have : 638 ≤ dutyTable b := hmono (a := 128) (by decide) h hhigh
    omega

theorem mapB_toNat_of_le {m : Half} (hm : 960#16 ≤ m) (b : Byte) : (mapB b m).toNat = dutyTable b.toNat := by
  have hm : 960 ≤ m.toNat := hm
  have := dutyTable_bounds b.isLt
  rw [mapB_toNat]
  omega

/-- Rule R100: the reading of a byte is not negative, and at most 300. -/
theorem reading_bounds (b : Byte) :
    0 ≤ F32.units (p2r (b2p b)) ∧ F32.units (p2r (b2p b)) ≤ F32.units k300 := by
  obtain ⟨hsign, hmag⟩ := b2p_bounds b
  have hunits := F32.magnitudeUnits_strictMono.monotone hmag
  have hmax : F32.magnitudeUnits 0x42C80000 * F32.magnitudeUnits (F32.magnitude k3) =
      F32.magnitudeUnits (F32.magnitude k300) * 2 ^ 149 := by decide
  have hreading : F32.sign (p2r (b2p b)) = false ∧ F32.magnitude (p2r (b2p b)) ≤ F32.magnitude k300 := by
    rw [p2r, fmul_of_finite (F32.isFinite_of_magnitude_le hmag (by decide)) (by decide), F32.sign_pack,
      F32.magnitude_pack_round, hsign]
    exact ⟨by decide, F32.roundMagnitude_le (Nat.two_pow_pos 149)
      ((Nat.mul_le_mul_right _ hunits).trans hmax.le)⟩
  rw [F32.units_of_sign_false hreading.1, F32.units_of_sign_false (x := k300) (by decide)]
  exact ⟨Int.natCast_nonneg _, Int.ofNat_le.mpr (F32.magnitudeUnits_strictMono.monotone hreading.2)⟩

/-- Settles O16: the duties are those of the table, which increases from 215 to 960. -/
theorem unclampedDutyIncreasesFrom215To960 : Obligations.UnclampedDutyIncreasesFrom215To960 := by
  refine ⟨reading_bounds, fun b m hm => ?_, fun b c m hm hlt => ?_⟩
  · simp only [BitVec.le_def, mapB_toNat_of_le hm]
    exact dutyTable_bounds b.isLt
  · rw [BitVec.lt_def, mapB_toNat_of_le hm, mapB_toNat_of_le hm]
    exact dutyTable_strictMonoOn b.isLt c.isLt hlt

/-- Settles O17: under a bound of 960 or more both duties are unclamped. -/
theorem defaultDutyIs636Clamped : Obligations.DefaultDutyIs636Clamped := by
  refine ⟨mapD_toNat, fun b m hm heq => dutyTable_ne_default b.isLt ?_⟩
  have hm' : 960 ≤ m.toNat := hm
  rw [← mapB_toNat_of_le hm, heq, mapD_toNat]
  omega

end Sys2Proof

/-! ## Proofs of the family 41_pwm_controller: the four transactions, the timer and its period, and what no
instruction sees of the timer -/

namespace Sys2Proof.Machine

/-! ### SETFREQ, MAXDUTY and ENABLE (rules R111 to R113) -/

/-- Settles O18: one write of `PWM_FSEL`, which selects the period. -/
theorem setfreqSelectsThePeriod : Obligations.SetfreqSelectsThePeriod := by
  intro f s
  refine ⟨exec_setfreq f s, ?_⟩
  cases f <;> rfl

/-- Settles O19: what is read is the period in force. -/
theorem maxdutyReturnsThePeriod : Obligations.MaxdutyReturnsThePeriod := by
  intro s
  rw [exec_maxduty]
  exact ⟨fun h => by rw [pwmPeriod_f10k h]; rfl, fun h => by rw [pwmPeriod_f1k h]; rfl⟩

/-- The data of ENABLE is the bit of its channel alone (rules R30, R113). -/
theorem getLsbD_enableData (ch c : Channel) :
    (ch.enableData.extractLsb' 0 3).getLsbD (c.number - 1) = (c == ch) := by
  cases ch <;> cases c <;> rfl

theorem enabled_setEn_or_enableData (ch c : Channel) (s : State) :
    (s.setEn (s.en ||| ch.enableData.extractLsb' 0 3)).enabled c = (c == ch || s.enabled c) := by
  simp only [State.enabled, State.setEn_en, BitVec.getLsbD_or, getLsbD_enableData, Bool.or_comm]

/-- Settles O20: each of the three is the one write of the enables, with its channel's bit. -/
theorem enableSetsItsBitAlone : Obligations.EnableSetsItsBitAlone :=
  fun s => ⟨memWrite_enable .ch1 s, memWrite_enable .ch2 s, memWrite_enable .ch3 s,
    fun c => enabled_setEn_or_enableData .ch1 c s, fun c => enabled_setEn_or_enableData .ch2 c s,
    fun c => enabled_setEn_or_enableData .ch3 c s⟩

/-! ### SETDUTY and the steps that issue it (rules R114, R115) -/

/-- Settles O21: the two cases of a duty write, for each channel. -/
theorem setdutyWritesItsShadowOrFaults : Obligations.SetdutyWritesItsShadowOrFaults :=
  fun _ _ => ⟨fun h => ⟨setDuty_in_range .ch1 h, setDuty_in_range .ch2 h, setDuty_in_range .ch3 h⟩,
    fun h => ⟨setDuty_out_of_range .ch1 h, setDuty_out_of_range .ch2 h, setDuty_out_of_range .ch3 h⟩⟩

/-- The fault of the transaction is the fault of the step that issues it. -/
theorem writeDutyStep_out_of_range {head : BitVec 4} {ch : Channel} {s : State}
    (hissue : ∀ v u, issue (head ++ v) u = setDuty ch v u) (c : StepCode) (h : s.pwmPeriod < s.dc.val) :
    writeDutyStep head c s = .fault (.dutyOutOfRange ch s.dc.val s.pwmPeriod) := by
  rw [writeDutyStep, issueStep, hissue, setDuty_out_of_range ch (by simpa using h), thenDo_fault,
    State.noteRead_pwmPeriod]

/-- Settles O34: each of the four steps writes `DC` to channel 2 or to channel 3. -/
theorem dutyStepsFaultOutOfRange : Obligations.DutyStepsFaultOutOfRange :=
  fun _ h => ⟨writeDutyStep_out_of_range issue_setduty2 _ h, writeDutyStep_out_of_range issue_setduty3 _ h,
    writeDutyStep_out_of_range issue_setduty2 _ h, writeDutyStep_out_of_range issue_setduty3 _ h⟩

/-! ### The timer's turns (rules R118, R119) -/

theorem step_timer {s : State} {e : TimerEvent} {rest : List Turn}
    (h : s.agenda = .move (.timer e) :: rest) : step s = .next (timerEvent (s.setAgenda rest) e) :=
  step_cons h

/-- Rule R118: a tick that ends a period is a boundary. -/
theorem tick_at_period_end {s : State} (h : s.pwmPeriod.toNat ≤ s.cnt.toNat + 1) : tick s = pbound s :=
  if_pos h

theorem tick_below_period {s : State} (h : s.cnt.toNat + 1 < s.pwmPeriod.toNat) :
    tick s = s.setTimer (s.cnt + 1#16) s.dutyAct s.dutyPending :=
  tick_within_period (decide_eq_false (Nat.not_le.mpr h))

/-- Settles O27: the boundary loads the shadows as they stand. -/
theorem pboundLoadsAllThreeChannels : Obligations.PboundLoadsAllThreeChannels :=
  fun _ _ h => step_timer h

/-- Settles O26: the two cases of a tick; a count below the period does not wrap. -/
theorem tickCountsOrIsAPeriodBoundary : Obligations.TickCountsOrIsAPeriodBoundary := by
  intro s rest hagenda
  rw [step_timer hagenda, timerEvent]
  refine ⟨fun hend => ?_, fun hcount => ⟨s.cnt + 1#16, ?_, ?_⟩⟩
  · rw [tick_at_period_end (by simpa using hend)]
    rfl
  · have := s.pwmPeriod.isLt
    bv_omega
  · rw [tick_below_period (by simpa using hcount)]
    rfl

/-! ### One period of ticks (rules R117, R118, R125) -/

theorem timerEvents_ticks_succ (k : Nat) (s : State) :
    timerEvents (List.replicate (k + 1) .tick) s = tick (timerEvents (List.replicate k .tick) s) := by
  rw [List.replicate_succ', timerEvents, List.foldl_concat]
  rfl

theorem pwmPeriod_pos (s : State) : 0 < s.pwmPeriod.toNat := by
  have hpos : s.pwmPeriod ≠ 0#16 := by
    rcases h : s.fsel with _ | _
    · rw [pwmPeriod_f1k h]; exact s.maxDuty1k.pos
    · rw [pwmPeriod_f10k h]; exact s.maxDuty.pos
  exact Nat.pos_of_ne_zero fun h => hpos (BitVec.eq_of_toNat_eq h)

/-- A count below the period fits the register. -/
theorem toNat_count_below_period {s : State} {k : Nat} (hk : k < s.pwmPeriod.toNat) :
    (BitVec.ofNat 16 k).toNat = k :=
  Nat.mod_eq_of_lt (hk.trans s.pwmPeriod.isLt)

/-- Below the period each tick counts, and does nothing else. -/
theorem timerEvents_ticks_below_period {s : State} (hcnt : s.cnt = 0#16) {k : Nat}
    (hk : k < s.pwmPeriod.toNat) :
    timerEvents (List.replicate k .tick) s = s.setTimer (BitVec.ofNat 16 k) s.dutyAct s.dutyPending := by
  induction k with
  | zero => rw [← hcnt]; rfl
  | succ k ih =>
    have hk' : k < s.pwmPeriod.toNat := k.lt_succ_self.trans hk
    have hcount : (BitVec.ofNat 16 k).toNat + 1 < s.pwmPeriod.toNat := by
      rwa [toNat_count_below_period hk']
    rw [timerEvents_ticks_succ, ih hk', tick_below_period hcount, BitVec.ofNat_add]
    rfl

/-- The tick that ends the period. -/
theorem timerEvents_ticks_of_period {s : State} (hcnt : s.cnt = 0#16) :
    timerEvents (List.replicate s.pwmPeriod.toNat .tick) s = s.setTimer 0#16 s.dutySh false := by
  obtain ⟨k, hk⟩ := Nat.exists_eq_succ_of_ne_zero (pwmPeriod_pos s).ne'
  have hlast : k < s.pwmPeriod.toNat := hk ▸ k.lt_succ_self
  have hend : s.pwmPeriod.toNat ≤ (BitVec.ofNat 16 k).toNat + 1 := by
    rw [toNat_count_below_period hlast, hk]
  rw [hk, timerEvents_ticks_succ, timerEvents_ticks_below_period hcnt hlast, tick_at_period_end hend]
  rfl

theorem pwmOut_eq_true_iff (s : State) (ch : Channel) :
    s.pwmOut ch = true ↔ s.enabled ch = true ∧ s.cnt.toNat < (s.dutyAct.get ch).toNat := by
  rw [State.pwmOut, Bool.and_eq_true, decide_eq_true_eq, BitVec.lt_def]

/-- Settles O28: the ticks of a period are counted in `CNT` alone, which the output is compared with. -/
theorem onePeriodIsActiveForItsDuty : Obligations.OnePeriodIsActiveForItsDuty := by
  refine fun s hcnt => ⟨fun k ch hk => ?_, timerEvents_ticks_of_period hcnt⟩
  rw [timerEvents_ticks_below_period hcnt hk, pwmOut_eq_true_iff, State.setTimer_cnt,
    toNat_count_below_period hk]
  exact ⟨rfl, rfl, .rfl⟩

/-! ### No instruction sees the timer (rule R120) -/

/-- The next action keeps the agreement if it does on every two states that differ in the timer alone. -/
theorem SameOutcomeButTimer.thenDo {o o' : Result} (h : SameOutcomeButTimer o o') {k : State → Result}
    (hk : ∀ s t, SameButTimer s t → SameOutcomeButTimer (k s) (k t)) :
    SameOutcomeButTimer (thenDo o k) (thenDo o' k) := by
  cases o <;> cases o'
  case next.next s t => exact hk s t h
  case fault.fault | refused.refused => exact h
  all_goals exact False.elim h

section
variable {s t : State} (h : SameButTimer s t)
include h

theorem SameButTimer.waiting : t.waiting = s.waiting := by
  obtain ⟨c, d, p, rfl⟩ := h
  rfl

theorem SameButTimer.setOffer (o : Option Byte) : SameButTimer (s.setOffer o) (t.setOffer o) := by
  obtain ⟨c, d, p, rfl⟩ := h
  exact ⟨c, d, p, rfl⟩

/-- The events drawn are the same ones; what they leave differs in the timer alone. -/
theorem SameButTimer.timerGap : SameButTimer (timerGap s) (timerGap t) := by
  obtain ⟨c, d, p, rfl⟩ := h
  exact ⟨_, _, _, rfl⟩

theorem SameButTimer.setDuty (ch : Channel) (v : Half) :
    SameOutcomeButTimer (setDuty ch v s) (setDuty ch v t) := by
  obtain ⟨c, d, p, rfl⟩ := h
  rcases setDuty_cases ch v s with ⟨hrange, hs⟩ | ⟨hrange, hs⟩
  · rw [hs, setDuty_out_of_range ch (by simpa using hrange)]
    rfl
  · rw [hs, setDuty_in_range ch (by simpa using hrange)]
    exact ⟨c, d, true, rfl⟩

theorem SameButTimer.writeDutyStep {head : BitVec 4} {ch : Channel}
    (hissue : ∀ v u, issue (head ++ v) u = Machine.setDuty ch v u) (succ : StepCode) :
    SameOutcomeButTimer (writeDutyStep head succ s) (writeDutyStep head succ t) := by
  have hread : SameButTimer (s.noteRead .dc s.dc.written) (t.noteRead .dc t.dc.written) := by
    obtain ⟨c, d, p, rfl⟩ := h
    exact ⟨c, d, p, rfl⟩
  have hdc : t.dc = s.dc := by obtain ⟨c, d, p, rfl⟩ := h; rfl
  simp only [Machine.writeDutyStep, issueStep, hissue]
  rw [hdc] at hread ⊢
  refine (hread.setDuty ch _).thenDo fun s' t' h' => ?_
  obtain ⟨c, d, p, rfl⟩ := h'
  exact ⟨c, d, p, rfl⟩

/-- The instructions of one transaction or one step: each writes the same into both states. -/
theorem SameButTimer.exec_of_ne_cmd {i : Instr} (hi : ∀ b, i ≠ .cmd b) :
    SameOutcomeButTimer (exec i s) (exec i t) := by
  cases i with
  | cmd b => exact absurd rfl (hi b)
  | setduty1 v => exact h.setDuty .ch1 v
  | setduty2 v => exact h.setDuty .ch2 v
  | setduty3 v => exact h.setDuty .ch3 v
  | sPr2 | sWr2 => exact h.writeDutyStep issue_setduty2 _
  | sPr3 | sWr3 => exact h.writeDutyStep issue_setduty3 _
  | setfreq f =>
    obtain ⟨c, d, p, rfl⟩ := h
    rw [exec_setfreq, exec_setfreq]
    exact ⟨c, d, p, rfl⟩
  | sWait =>
    show SameOutcomeButTimer (execSWait s) (execSWait t)
    obtain ⟨c, d, p, rfl⟩ := h
    unfold execSWait
    dsimp only [State.setTimer_offer]
    split <;> exact ⟨c, d, p, rfl⟩
  | _ =>
    obtain ⟨c, d, p, rfl⟩ := h
    exact ⟨c, d, p, rfl⟩

theorem SameButTimer.seqStep : SameOutcomeButTimer (seqStep s) (seqStep t) := by
  have hseq : t.seq = s.seq := by obtain ⟨c, d, p, rfl⟩ := h; rfl
  rw [seqStep_eq_runWord, seqStep_eq_runWord, hseq, runWord, runWord]
  rcases hi : decode (.stepCode s.seq) with i | r | r
  · exact h.exec_of_ne_cmd fun b hb => decode_stepCode_ne_cmd s.seq b (hb ▸ hi)
  · exact rfl
  · exact rfl

end

theorem SameButTimer.runToWaiting (n : Nat) {s t : State} (h : SameButTimer s t) :
    SameOutcomeButTimer (runToWaiting n s) (runToWaiting n t) := by
  induction n generalizing s t with
  | zero => exact h
  | succ n ih =>
    rw [Machine.runToWaiting, Machine.runToWaiting, h.waiting]
    split
    · exact h
    · exact h.timerGap.seqStep.thenDo fun _ _ => ih

theorem SameButTimer.execCmd {s t : State} (h : SameButTimer s t) (b : Byte) :
    SameOutcomeButTimer (execCmd b s) (execCmd b t) :=
  (h.runToWaiting 12).thenDo fun _ _ h' => (h'.setOffer (some b)).runToWaiting 4

/-- Settles O45: CMD is made of steps and of gaps, and every other instruction is one transaction or one step. -/
theorem noInstructionSeesTheTimer : Obligations.NoInstructionSeesTheTimer := by
  intro i s t h
  cases i with
  | cmd b => exact h.execCmd b
  | _ => exact h.exec_of_ne_cmd (by simp)

end Sys2Proof.Machine

/-! ## Proofs of the family 42_sequencer: the twelve steps, INIT and CMD with their transaction traces, what
writes MAXD, and the transfer of an offered byte on fair runs -/

namespace Sys2Proof.Machine

/-! ### Steps that issue one transaction or none (rules R132 to R134, R137) -/

/-- Settles O29: the transaction of the step is SETFREQ F10K. -/
theorem stepSFreqSelectsTenKilohertz : Obligations.StepSFreqSelectsTenKilohertz :=
  fun _ => rfl

/-- Settles O30: what is latched is what the transaction has just read. -/
theorem stepSMaxqLatchesThePeriod : Obligations.StepSMaxqLatchesThePeriod :=
  fun _ => ⟨rfl, pwmPeriod_f10k⟩

/-- Settles O31: the transaction of each step is the ENABLE of its channel. -/
theorem stepsSEnEnableTheirChannel : Obligations.StepsSEnEnableTheirChannel :=
  fun _ => ⟨rfl, rfl, rfl⟩

/-- Settles O35: the two cases of S_WAIT. -/
theorem stepSWaitTakesTheOfferedByte : Obligations.StepSWaitTakesTheOfferedByte :=
  fun _ => ⟨fun _ => runWord_sWait_of_offer, runWord_sWait_of_no_offer⟩

/-! ### Steps that compute or write a duty (rules R135, R136, R138, R140) -/

theorem qmap_kRdef : qmap kRdef = 0x441F361C#32 := by
  obtain ⟨-, -, -, -, -, -, h⟩ := qmapOfTheDefaultReading
  exact h

/-- Settles O32: the reading and its curve value are constants, the duty is that of MAPD. -/
theorem stepSDefComputesTheDefaultDuty : Obligations.StepSDefComputesTheDefaultDuty := by
  refine fun s => ⟨mapD s.maxd.val, mapD_toNat _, (execSDef_eq s).trans ?_⟩
  rw [qmap_kRdef]
  rfl

/-- Settles O33: each of the four steps is a duty write in range. -/
theorem dutyStepsWriteTheShadowOfTheirChannel : Obligations.DutyStepsWriteTheShadowOfTheirChannel :=
  fun s h => ⟨writeDutyStep_ch2 7#4 s h, writeDutyStep_ch3 8#4 s h, writeDutyStep_ch2 11#4 s h,
    writeDutyStep_ch3 8#4 s h⟩

/-- Rule R171: of two reads the record keeps the first that was of an unwritten register. -/
theorem noteRead_noteRead_unwrittenRead (x y : DataReg) (xWritten yWritten : Bool) (s : State) :
    ((s.noteRead x xWritten).noteRead y yWritten).unwrittenRead =
      if s.unwrittenRead.isSome then s.unwrittenRead
      else if xWritten = false then some x
      else if yWritten = false then some y else none := by
  cases h : s.unwrittenRead <;> cases xWritten <;> cases yWritten <;> simp [h]

/-- Settles O36: the duty is that of MAPB; CB is read before MAXD. -/
theorem stepSMapComputesTheDuty : Obligations.StepSMapComputesTheDuty := by
  refine fun s => ⟨mapB s.cb.val s.maxd.val, mapB_toNat _ _, (execSMap_eq s).trans ?_⟩
  rw [← noteRead_noteRead_unwrittenRead]
  rfl

/-- Settles O38: each step that `txWord` gives a word issues that word, S_MAXQ latching what it reads. -/
theorem stepsIssueTheirTransactionWord : Obligations.StepsIssueTheirTransactionWord := by
  intro s w h
  obtain ⟨n, hn, hseq⟩ : ∃ n < 16, s.seq = BitVec.ofNat 4 n := ⟨s.seq.toNat, s.seq.isLt, by simp⟩
  rw [seqStep_of_code hseq, hseq]
  unfold State.txWord at h
  rw [hseq] at h
  interval_cases n <;> cases h
  · exact ⟨1#4, rfl⟩
  · exact ⟨2#4, rfl⟩
  · exact ⟨3#4, rfl⟩
  · exact ⟨4#4, rfl⟩
  · exact ⟨5#4, rfl⟩
  · exact ⟨7#4, rfl⟩
  · exact ⟨8#4, rfl⟩
  · exact ⟨11#4, rfl⟩
  · exact ⟨8#4, rfl⟩

/-! ### MAXD (rules R133, R199) -/

/-- Of the steps only S_MAXQ writes MAXD. -/
theorem StepEffect.maxd {s t : State} {c : StepCode} (h : StepEffect s c t) (hc : c ≠ 1#4) :
    t.maxd = s.maxd := by
  cases h with
  | sMaxq => contradiction
  | _ => rfl

/-- No step goes back to S_FREQ or S_MAXQ (rule R131). -/
theorem StepEffect.two_le_seq {s t : State} {c : StepCode} (h : StepEffect s c t) (hc : 1 ≤ c.toNat) :
    2 ≤ t.seq.toNat := by
  cases h with
  | sFreq => contradiction
  | _ => simp

theorem runToWaiting_maxd {n : Nat} {s t : State} (h : runToWaiting n s = .next t)
    (hseq : 2 ≤ s.seq.toNat) : t.maxd = s.maxd ∧ 2 ≤ t.seq.toNat := by
  induction n generalizing s with
  | zero => cases h; exact ⟨rfl, hseq⟩
  | succ n ih =>
    rw [runToWaiting] at h
    split at h
    · cases h; exact ⟨rfl, hseq⟩
    · obtain ⟨u, hu, hrest⟩ := thenDo_eq_next.mp h
      have hstep : StepEffect (timerGap s) s.seq u := seqStep_eq_next.mp hu
      have hne : s.seq ≠ 1#4 := fun hone => by rw [hone] at hseq; contradiction
      obtain ⟨hmaxd, hseq'⟩ := ih hrest (hstep.two_le_seq (by omega))
      exact ⟨hmaxd.trans (hstep.maxd hne), hseq'⟩

/-- Settles O47: the transactions leave MAXD, of the steps only S_MAXQ writes it, and CMD from SEQ 2 on performs
none of those. -/
theorem onlySMaxqWritesMaxd : Obligations.OnlySMaxqWritesMaxd := by
  intro i s t h hi hcmd
  cases i with
  | cmd b =>
    obtain ⟨u, hu, hrest⟩ := thenDo_eq_next.mp h
    obtain ⟨hmaxd, hseq⟩ := runToWaiting_maxd hu (hcmd ⟨b, rfl⟩)
    exact (runToWaiting_maxd hrest hseq).1.trans hmaxd
  | setfreq f => rw [exec_setfreq] at h; cases h; rfl
  | maxduty => cases h; rfl
  | enable1 => rw [enableChannel_eq_next (ch := .ch1) h]; rfl
  | enable2 => rw [enableChannel_eq_next (ch := .ch2) h]; rfl
  | enable3 => rw [enableChannel_eq_next (ch := .ch3) h]; rfl
  | setduty1 v => rw [setDuty_eq_next (ch := .ch1) h]; rfl
  | setduty2 v => rw [setDuty_eq_next (ch := .ch2) h]; rfl
  | setduty3 v => rw [setDuty_eq_next (ch := .ch3) h]; rfl
  | sMaxq => contradiction
  | _ => exact (stepEffect_of_exec rfl h).maxd (by decide)

/-! ### Runs of the microprogram with timer events between the steps (rules R141, R142) -/

/-- A run of the microprogram without its timer events, from `u` to `v`, in which the block never waits for a
byte: the words that its steps issue, and the shadow duties before each step, which a period boundary would
load. -/
inductive MicroRun : State → List Tx → List Duties → State → Prop
  | nil (v : State) : MicroRun v [] [] v
  | step {u u' v : State} {ws : List Tx} {ds : List Duties} (hbusy : u.waiting = false)
      (heffect : StepEffect u u.seq u') (hrest : MicroRun u' ws ds v) :
      MicroRun u (u.txWord.toList ++ ws) (u.dutySh :: ds) v

/-- The second state is the first but for what timer events between two steps reach: the timer's state, the
record of R16 and the draws (log 6). -/
def SameButGaps (u s : State) : Prop :=
  ∃ c d p n, s = { u with cnt := c, dutyAct := d, dutyPending := p, drawn := n }

theorem SameButGaps.refl (s : State) : SameButGaps s s :=
  ⟨s.cnt, s.dutyAct, s.dutyPending, s.drawn, rfl⟩

/-- A step reads none of that, and of that writes only the record of R16. -/
theorem StepEffect.of_gaps {u v : State} {code : StepCode} (h : StepEffect u code v) (c : Half) (d : Duties)
    (p : Bool) (n : Nat) :
    ∃ p', StepEffect { u with cnt := c, dutyAct := d, dutyPending := p, drawn := n } code
      { v with cnt := c, dutyAct := d, dutyPending := p', drawn := n } := by
  cases h with
  | sFreq => exact ⟨p, .sFreq⟩
  | sMaxq => exact ⟨p, .sMaxq⟩
  | sEn1 => exact ⟨p, .sEn1⟩
  | sEn2 => exact ⟨p, .sEn2⟩
  | sEn3 => exact ⟨p, .sEn3⟩
  | sDef => exact ⟨p, .sDef⟩
  | sPr2 h => exact ⟨true, .sPr2 h⟩
  | sPr3 h => exact ⟨true, .sPr3 h⟩
  | sWaitTakes b h => exact ⟨p, .sWaitTakes b h⟩
  | sWaitStays h => exact ⟨p, .sWaitStays h⟩
  | sMap => exact ⟨p, .sMap⟩
  | sWr2 h => exact ⟨true, .sWr2 h⟩
  | sWr3 h => exact ⟨true, .sWr3 h⟩

/-- One step with the timer events before it: the step's effect, and at most the shadows loaded. -/
theorem SameButGaps.seqStep {u u' s : State} (h : SameButGaps u s) (heffect : StepEffect u u.seq u') :
    ∃ t, seqStep (timerGap s) = .next t ∧ SameButGaps u' t ∧
      (t.dutyAct = s.dutyAct ∨ t.dutyAct = u.dutySh) := by
  obtain ⟨c₀, d₀, p₀, n₀, rfl⟩ := h
  obtain ⟨c, d, p, hgap, hleft⟩ := timerGap_eq_setTimer { u with
    cnt := c₀, dutyAct := d₀, dutyPending := p₀, drawn := n₀ }
  obtain ⟨p', hstep⟩ := heffect.of_gaps c d p (n₀ + 1)
  rw [hgap]
  exact ⟨_, seqStep_eq_next.mpr hstep, ⟨c, d, p', n₀ + 1, rfl⟩, hleft.imp And.left And.left⟩

section
variable {u v : State} {ws : List Tx} {ds : List Duties} (hrun : MicroRun u ws ds v)
include hrun

/-- Whatever timer events fall inside, the steps end as without them, but for the timer: the active duties are
those held before, or shadows that a step found. -/
theorem MicroRun.sequencerRun {s : State} (h : SameButGaps u s) :
    ∃ t, sequencerRun ds.length s = .next t ∧ SameButGaps v t ∧ t.dutyAct ∈ s.dutyAct :: ds := by
  induction hrun generalizing s with
  | nil v => exact ⟨s, rfl, h, List.mem_cons_self⟩
  | step _ heffect _ ih =>
    obtain ⟨s', hstep, h', hact⟩ := h.seqStep heffect
    obtain ⟨t, hrest, ht, hmem⟩ := ih h'
    refine ⟨t, ?_, ht, ?_⟩
    · rw [List.length_cons, Machine.sequencerRun, hstep, thenDo_next, hrest]
    · rcases List.mem_cons.mp hmem with heq | hlater
      · rcases hact with hkept | hloaded
        · simp [heq, hkept]
        · simp [heq, hloaded]
      · exact List.mem_cons_of_mem _ (List.mem_cons_of_mem _ hlater)

/-- A block that does not wait runs on. -/
theorem MicroRun.runToWaiting {s : State} (h : SameButGaps u s) :
    runToWaiting ds.length s = Machine.sequencerRun ds.length s := by
  induction hrun generalizing s with
  | nil v => rfl
  | step hbusy heffect _ ih =>
    obtain ⟨s', hstep, h', -⟩ := h.seqStep heffect
    have hbusy' : s.waiting = false := by obtain ⟨c, d, p, n, rfl⟩ := h; exact hbusy
    rw [List.length_cons, Machine.runToWaiting, Machine.sequencerRun, hbusy', hstep]
    exact ih h'

theorem MicroRun.seqTrace {s : State} (h : SameButGaps u s) : seqTrace ds.length s = ws := by
  induction hrun generalizing s with
  | nil v => rfl
  | @step u _ _ _ _ hbusy heffect _ ih =>
    obtain ⟨s', hstep, h', -⟩ := h.seqStep heffect
    have hword : s.txWord = u.txWord := by obtain ⟨c, d, p, n, rfl⟩ := h; rfl
    rw [List.length_cons, Machine.seqTrace, hstep, ← ih h', ← hword]

end

/-! ### INIT (rule R141) -/

/-- Rule R141: the state after INIT, but for the timer. -/
def State.primed (s : State) : State :=
  { s with
    fsel := .f10k, busRead := s.maxDuty.ticks, maxd := ⟨s.maxDuty.ticks, true⟩,
    en := s.en ||| 1#3 ||| 2#3 ||| 4#3, rd := ⟨kRdef, true⟩, df := ⟨0x441F361C#32, true⟩,
    dc := ⟨mapD s.maxDuty.ticks, true⟩,
    dutySh := ⟨s.dutySh.ch1, mapD s.maxDuty.ticks, mapD s.maxDuty.ticks⟩, dutyPending := true, seq := 8#4 }

/-- Steps 0 to 7 in order; the duty that the last two write is in range, as MAPD clamps it. -/
theorem microRun_init {s : State} (hseq : s.seq = 0#4) :
    MicroRun s
      [0x80001#20, 0x10000#20, 0xA0001#20, 0xA0002#20, 0xA0004#20, 0xE#4 ++ mapD s.maxDuty.ticks,
        0xF#4 ++ mapD s.maxDuty.ticks]
      (List.replicate 7 s.dutySh ++ [⟨s.dutySh.ch1, mapD s.maxDuty.ticks, s.dutySh.ch3⟩]) s.primed := by
  have hrange : mapD s.maxDuty.ticks ≤ s.maxDuty.ticks := f2d_le _ _
  have hbusy : s.waiting = false := by simp [State.waiting, hseq]
  have hfirst : StepEffect s s.seq ((s.setFsel .f10k).setSeq 1#4) := hseq ▸ .sFreq
  have hrun := MicroRun.step hbusy hfirst <| .step rfl .sMaxq <| .step rfl .sEn1 <| .step rfl .sEn2 <|
    .step rfl .sEn3 <| .step rfl .sDef <| .step rfl (.sPr2 (by simpa using hrange)) <|
    .step rfl (.sPr3 (by simpa using hrange)) <| .nil _
  simpa [State.txWord, State.pwmPeriod, hseq, qmap_kRdef, State.primed, State.setSeq, State.setFsel,
    State.setBusRead, State.writeMaxd, State.setEn, State.writeRd, State.writeDf, State.writeDc,
    State.setDutySh, State.noteRead, Latch.of] using hrun

/-- The three enables together (rule R30). -/
theorem or_three_enables (e : BitVec 3) : e ||| 1#3 ||| 2#3 ||| 4#3 = 0b111#3 := by
  revert e; decide

/-- Settles O40: the shadows are 0 up to S_PR2 and primed in channel 2 before S_PR3, so the last boundary loaded
one of the two, if it came at all. -/
theorem initLeavesThePrimedBlock : Obligations.InitLeavesThePrimedBlock := by
  intro s hseq hsh hact
  obtain ⟨t, hrun, ⟨c, act, p, n, rfl⟩, hmem⟩ := (microRun_init hseq).sequencerRun (.refl s)
  have hshadow : s.primed.dutySh = ⟨0#16, mapD s.maxDuty.ticks, mapD s.maxDuty.ticks⟩ := by
    rw [State.primed, hsh]
  have hactive : act = ⟨0#16, 0#16, 0#16⟩ ∨ act = ⟨0#16, mapD s.maxDuty.ticks, 0#16⟩ := by
    simpa [hsh, hact] using hmem
  exact ⟨_, mapD s.maxDuty.ticks, hrun, mapD_toNat _, rfl, rfl, rfl, or_three_enables s.en, hshadow, rfl, rfl,
    rfl, rfl, rfl, hactive.imp_right .inl, hshadow, rfl, rfl⟩

/-! ### CMD (rule R142) -/

/-- Rule R142: the state after the command, but for the timer; of the reads only that of MAXD can be one of an
unwritten register (R171). -/
def State.commanded (b : Byte) (s : State) : State :=
  { s with
    cb := ⟨b, true⟩, pct := ⟨b2p b, true⟩, rd := ⟨p2r (b2p b), true⟩, df := ⟨qmap (p2r (b2p b)), true⟩,
    dc := ⟨mapB b s.maxd.val, true⟩,
    dutySh := ⟨s.dutySh.ch1, mapB b s.maxd.val, mapB b s.maxd.val⟩, dutyPending := true, seq := 8#4,
    offer := none, unwrittenRead := (s.noteRead .maxd s.maxd.written).unwrittenRead }

/-- S_WAIT with a byte on offer, S_MAP, S_WR2 and S_WR3; the duty is in range, as MAPB clamps it to MAXD. -/
theorem microRun_cmd {s : State} {b : Byte} (hseq : s.seq = 8#4) (hoffer : s.offer = some b)
    (hmaxd : s.maxd.val ≤ s.pwmPeriod) :
    MicroRun s [0xE#4 ++ mapB b s.maxd.val, 0xF#4 ++ mapB b s.maxd.val]
      (List.replicate 3 s.dutySh ++ [⟨s.dutySh.ch1, mapB b s.maxd.val, s.dutySh.ch3⟩]) (s.commanded b) := by
  have hrange : mapB b s.maxd.val ≤ s.pwmPeriod := BitVec.le_trans (f2d_le _ _) hmaxd
  have hbusy : s.waiting = false := by simp [State.waiting, hoffer]
  have hfirst : StepEffect s s.seq (((s.writeCb b).setOffer none).setSeq 9#4) := hseq ▸ .sWaitTakes b hoffer
  have hrun := MicroRun.step hbusy hfirst <| .step rfl .sMap <| .step rfl (.sWr2 (by simpa using hrange)) <|
    .step rfl (.sWr3 (by simpa using hrange)) <| .nil _
  simpa [State.txWord, hseq, State.commanded, State.setSeq, State.writeCb, State.setOffer, State.writePct,
    State.writeRd, State.writeDf, State.writeDc, State.setDutySh, State.noteRead, Latch.of] using hrun

theorem waiting_iff {s : State} : s.waiting = true ↔ s.seq = 8#4 ∧ s.offer = none := by
  simp [State.waiting]

/-- A waiting block is offered the byte at once, and runs until it waits again. -/
theorem execCmd_of_waiting {s : State} (h : s.waiting = true) (b : Byte) :
    execCmd b s = runToWaiting 4 (s.setOffer (some b)) := by
  rw [execCmd, runToWaiting, if_pos h, thenDo_next]

/-- Settles O39: the shadows are those held up to S_WR2, and written in channel 2 before S_WR3, so the last
boundary loaded one of the two, if it came at all. -/
theorem cmdWritesBothChannels : Obligations.CmdWritesBothChannels := by
  intro b s hwait hmaxd
  obtain ⟨hseq, -⟩ := waiting_iff.mp hwait
  have hmicro := microRun_cmd (s := s.setOffer (some b)) hseq rfl hmaxd
  obtain ⟨t, hrun, hend, hmem⟩ := hmicro.sequencerRun (.refl _)
  have hexec : exec (.cmd b) s = .next t :=
    (execCmd_of_waiting hwait b).trans ((hmicro.runToWaiting (.refl _)).trans hrun)
  obtain ⟨c, act, p, n, rfl⟩ := hend
  have hactive : act = s.dutyAct ∨ act = s.dutySh ∨ act = ⟨s.dutySh.ch1, mapB b s.maxd.val, s.dutySh.ch3⟩ := by
    simpa using hmem
  refine ⟨_, mapB b s.maxd.val, hexec, mapB_toNat _ _, rfl, rfl, rfl, rfl, rfl, rfl, rfl, hactive, rfl, rfl, rfl,
    rfl, rfl, rfl, rfl, rfl, rfl, fun hwritten => ?_⟩
  simp [State.commanded, hwritten]

/-- Settles O41: the words of the two runs of the microprogram. -/
theorem initAndCmdTransactionTraces : Obligations.InitAndCmdTransactionTraces :=
  ⟨fun s hseq => ⟨mapD s.maxDuty.ticks, mapD_toNat _, (microRun_init hseq).seqTrace (.refl s)⟩,
    fun b s hseq hoffer hmaxd =>
      ⟨mapB b s.maxd.val, mapB_toNat _ _, (microRun_cmd hseq hoffer hmaxd).seqTrace (.refl s)⟩⟩

/-! ### Endless runs of the block (rules R60, R123) -/

@[simp] theorem afterTurn_seq (s : State) : s.afterTurn.seq = s.seq := by
  unfold State.afterTurn; split <;> rfl

@[simp] theorem afterTurn_offer (s : State) : s.afterTurn.offer = s.offer := by
  unfold State.afterTurn; split <;> rfl

section
variable {r : Nat → State} (hr : BlockRun r)
include hr

theorem BlockRun.nextTurn_is_move (n : Nat) : ∃ m, (r n).nextTurn = .move m := by
  unfold State.nextTurn
  split
  case h_1 u rest heq => exact hr.moves n u (by rw [heq]; exact List.mem_cons_self)
  case h_2 => exact ⟨_, rfl⟩

/-- Each state of the run is left by one move of an agent; what is put on the agenda then is free. -/
theorem BlockRun.move (n : Nat) : ∃ m t a, (r n).nextTurn = .move m ∧
    runMove m (r n).afterTurn = .next t ∧ r (n + 1) = t.setAgenda a := by
  obtain ⟨m, hm⟩ := hr.nextTurn_is_move n
  obtain ⟨t, a, hstep, hnext⟩ := hr.steps n
  rw [step, hm] at hstep
  exact ⟨m, t, a, hm, hstep, hnext⟩

theorem BlockRun.blockInv (h0 : BlockInv (r 0)) (n : Nat) : BlockInv (r n) := by
  induction n with
  | zero => exact h0
  | succ n ih =>
    obtain ⟨t, a, hstep, hnext⟩ := hr.steps n
    obtain ⟨t', hstep', hinv⟩ := everyStepCompletesAndKeepsTheBlockInvariant (r n) ih
    obtain rfl : t' = t := by rw [hstep] at hstep'; cases hstep'; rfl
    have hagenda : ∀ u ∈ (r (n + 1)).agenda, Turn.ofBlock u = true := by
      intro u hu
      obtain ⟨m, rfl⟩ := hr.moves (n + 1) u hu
      rfl
    rw [hnext] at hagenda ⊢
    exact { hinv with agenda_block := hagenda }

end

/-! ### The transfer of an offered byte (rules R139, R200, R203) -/

/-- How many steps of the sequencer lie before S_WAIT (rule R131). -/
def stepsToWait (c : StepCode) : Nat := if c.toNat ≤ 8 then 8 - c.toNat else 12 - c.toNat

/-- With a byte on offer a step takes it, at S_WAIT, or leaves it and comes nearer to S_WAIT. -/
theorem StepEffect.takes_or_approaches {s t : State} {c : StepCode} (h : StepEffect s c t) {b : Byte}
    (hoffer : s.offer = some b) :
    c = 8#4 ∧ t.offer = none ∧ t.cb = ⟨b, true⟩ ∧ t.seq = 9#4 ∨
      t.offer = some b ∧ stepsToWait t.seq < stepsToWait c := by
  cases h with
  | sWaitTakes b' h =>
    obtain rfl : b' = b := Option.some.inj (h.symm.trans hoffer)
    exact .inl ⟨rfl, rfl, rfl, rfl⟩
  | sWaitStays h => rw [h] at hoffer; contradiction
  | _ => exact .inr ⟨hoffer, by simp [stepsToWait]⟩

/-- Only the sequencer and `rst` write SEQ. -/
theorem runMove_seq {m : Move} {s t : State} (h : runMove m s = .next t) (hseqr : m ≠ .sequencer)
    (hrst : m ≠ .rst) : t.seq = s.seq := by
  cases m with
  | sequencer | rst => contradiction
  | timer e =>
    cases h
    obtain ⟨c, d, p, heq, -⟩ := timerEvent_eq_setTimer s e
    rw [heq]
    rfl
  | offer b =>
    cases h
    rw [hostOffer_eq_setOffer]
    rfl
  | loop i =>
    cases h
    obtain ⟨offer, env, heq, -⟩ := loopTurn_eq_setEnv i s
    rw [heq]
    rfl

/-- The byte is taken in the step from the `k`-th state of the run, at S_WAIT. -/
def TakenAt (r : Nat → State) (b : Byte) (k : Nat) : Prop :=
  (r k).seq = 8#4 ∧ (r (k + 1)).offer = none ∧ (r (k + 1)).cb = ⟨b, true⟩ ∧ (r (k + 1)).seq = 9#4

section
variable {r : Nat → State} (hr : BlockRun r) {b : Byte} {n : Nat} (hoffer : (r n).offer = some b)
include hr hoffer

/-- Rule R139: while neither the sequencer nor `rst` moves, the byte stays on offer and SEQ where it is. -/
theorem BlockRun.offer_waits (hseqr : (r n).nextTurn ≠ .move .sequencer)
    (hrst : (r n).nextTurn ≠ .move .rst) : (r (n + 1)).offer = some b ∧ (r (n + 1)).seq = (r n).seq := by
  obtain ⟨m, t, a, hm, hrun, hnext⟩ := hr.move n
  rw [hm, ne_eq, Turn.move.injEq] at hseqr hrst
  rw [← afterTurn_offer] at hoffer
  rw [hnext]
  refine ⟨?_, (runMove_seq hrun hseqr hrst).trans (afterTurn_seq _)⟩
  rcases anOfferedByteIsTakenOnceAndNeverDropped m _ t b hrun hoffer with ⟨hkept, -⟩ | ⟨hmove, -⟩
  · exact hkept
  · exact absurd hmove hseqr

/-- A move of the sequencer takes the byte, or comes nearer to S_WAIT. -/
theorem BlockRun.takes_or_approaches (hseqr : (r n).nextTurn = .move .sequencer) :
    TakenAt r b n ∨
      (r (n + 1)).offer = some b ∧ stepsToWait (r (n + 1)).seq < stepsToWait (r n).seq := by
  obtain ⟨m, t, a, hm, hrun, hnext⟩ := hr.move n
  obtain rfl : m = .sequencer := Turn.move.inj (hm.symm.trans hseqr)
  rw [← afterTurn_offer] at hoffer
  rw [TakenAt, hnext, ← afterTurn_seq]
  exact (runWord_stepCode_eq_next.mp hrun).takes_or_approaches hoffer

/-- The first move of the sequencer from here on finds the byte on offer, and SEQ where it is now. -/
theorem BlockRun.offer_waits_for_sequencer (hrst : ∀ k, n ≤ k → (r k).nextTurn ≠ .move .rst) {d : Nat}
    (hseqr : (r (n + d)).nextTurn = .move .sequencer) :
    ∃ k, n ≤ k ∧ (r k).nextTurn = .move .sequencer ∧ (∀ j, n ≤ j → j ≤ k → (r j).offer = some b) ∧
      (r k).seq = (r n).seq := by
  induction d generalizing n with
  | zero => exact ⟨n, le_rfl, hseqr, fun j hnj hjn => hnj.antisymm hjn ▸ hoffer, rfl⟩
  | succ d ih =>
    by_cases hnow : (r n).nextTurn = .move .sequencer
    · exact ⟨n, le_rfl, hnow, fun j hnj hjn => hnj.antisymm hjn ▸ hoffer, rfl⟩
    · obtain ⟨hoffer', hseq'⟩ := hr.offer_waits hoffer hnow (hrst n le_rfl)
      have hseqr' : (r (n + 1 + d)).nextTurn = .move .sequencer := by rwa [Nat.add_right_comm]
      obtain ⟨k, hk, hmove, hsteady, hseq⟩ := ih hoffer' (fun j hj => hrst j (by omega)) hseqr'
      refine ⟨k, by omega, hmove, fun j hnj hjk => ?_, hseq.trans hseq'⟩
      rcases hnj.eq_or_lt with rfl | hlater
      · exact hoffer
      · exact hsteady j hlater hjk

end

/-- Settles O52: fairness brings the sequencer to move again and again, and each of its moves with the byte on
offer takes the byte or brings S_WAIT nearer. -/
theorem fairRunsTakeEveryOfferedByte : Obligations.FairRunsTakeEveryOfferedByte := by
  intro r hr hfair hinv n b hoffer hrst
  generalize hdist : stepsToWait (r n).seq = dist
  induction dist using Nat.strong_induction_on generalizing n with
  | _ dist ih =>
    have hlegal : ∀ k, n ≤ k → StepCode.reserved (r k).seq = false := fun k _ =>
      decide_eq_false (by have := (hr.blockInv hinv k).seq_legal; omega)
    obtain ⟨k₀, hk₀, hmove₀⟩ := hfair.sequencer n hlegal
    obtain ⟨d, rfl⟩ := Nat.exists_eq_add_of_le hk₀
    obtain ⟨k, hnk, hmove, hsteady, hseq⟩ := hr.offer_waits_for_sequencer hoffer hrst hmove₀
    rcases hr.takes_or_approaches (hsteady k hnk le_rfl) hmove with htaken | ⟨hoffer', hnearer⟩
    · exact ⟨k, hnk, hsteady, htaken⟩
    · rw [hseq, hdist] at hnearer
      obtain ⟨k', hk', hsteady', htaken⟩ :=
        ih _ hnearer (k + 1) hoffer' (fun j hj => hrst j (by omega)) rfl
      refine ⟨k', by omega, fun j hnj hjk' => ?_, htaken⟩
      rcases Nat.lt_or_ge k j with hlater | hearlier
      · exact hsteady' j hlater hjk'
      · exact hsteady j hnj hearlier

end Sys2Proof.Machine

/-! ## Proofs of the family 43_environment: the echo and its invariant, the byte that is offered, and the
status indicator -/

namespace Sys2Proof.Machine

/-! ### What one turn of the command loop can do (rules R155 to R160) -/

/-- The effect of one turn of the command loop from `s` on each answer of the transport. -/
inductive LoopEffect (s : State) : LoopInput → State → Prop
  | receives (b : Byte) (rest : List Byte) (hphase : s.env.phase = .waitForData) :
      LoopEffect s (.received b rest)
        (s.setEnv { s.env with phase := .consume, buf := (b :: rest).take 64, off := 0, echoed := [],
                               toOffer := some b })
  | receivesNothing {i : LoopInput} (hphase : s.env.phase = .waitForData)
      (hinput : ∀ b rest, i ≠ .received b rest) : LoopEffect s i (s.setEnv { s.env with phase := .idle })
  | offers {i : LoopInput} {b : Byte} (hphase : s.env.phase = .consume) (hbyte : s.env.toOffer = some b)
      (hfree : s.offer = none) :
      LoopEffect s i ((s.setOffer (some b)).setEnv { s.env with toOffer := none })
  | startsEcho {i : LoopInput} (hphase : s.env.phase = .consume) (hbyte : s.env.toOffer = none)
      (hfree : s.offer = none) (hseq : s.seq = 8#4) :
      LoopEffect s i (s.setEnv { s.env with phase := .echo, led := .active })
  | awaitsBlock {i : LoopInput} (hphase : s.env.phase = .consume)
      (hbusy : s.offer ≠ none ∨ s.env.toOffer = none ∧ s.seq ≠ 8#4) : LoopEffect s i s
  | writes (n : Nat) (hphase : s.env.phase = .echo) :
      LoopEffect s (.wrote n)
        (s.setEnv { s.env with
          off := s.env.off + min n (s.env.buf.length - s.env.off),
          echoed := s.env.echoed ++ (s.env.buf.drop s.env.off).take n,
          phase := if s.env.buf.length ≤ s.env.off + n then .idle else .echo })
  | retries {i : LoopInput} (hphase : s.env.phase = .echo) (hinput : ∀ n, i ≠ .wrote n) : LoopEffect s i s
  | returns {i : LoopInput} (hphase : s.env.phase = .idle) :
      LoopEffect s i (s.setEnv { s.env with phase := .waitForData, led := .idle })

@[simp] theorem State.setEnv_env_self (s : State) : s.setEnv s.env = s := rfl

theorem loopEffect_loopTurn (i : LoopInput) (s : State) : LoopEffect s i (s.loopTurn i) := by
  unfold State.loopTurn
  split
  case h_1 hphase =>
    cases i with
    | received b rest => exact .receives b rest hphase
    | _ => exact .receivesNothing hphase (by simp)
  case h_2 hphase =>
    unfold State.loopConsume
    split
    case h_1 b hbyte =>
      split
      case isTrue hfree => exact .offers hphase hbyte (Option.isNone_iff_eq_none.mp hfree)
      case isFalse hheld => exact .awaitsBlock hphase (.inl fun hfree => hheld (by rw [hfree]; rfl))
    case h_2 hbyte =>
      split
      case isTrue hback =>
        obtain ⟨hfree, hseq⟩ := Bool.and_eq_true_iff.mp hback
        exact .startsEcho hphase hbyte (Option.isNone_iff_eq_none.mp hfree) (of_decide_eq_true hseq)
      case isFalse hbusy =>
        exact .awaitsBlock hphase (by simpa [hbyte, Classical.or_iff_not_imp_left] using hbusy)
  case h_3 hphase =>
    cases i with
    | wrote n => exact .writes n hphase
    | _ => exact .retries hphase (by simp)
  case h_4 hphase => exact .returns hphase

/-- A turn of the loop has one effect: that of `LoopEffect`. -/
theorem loopTurn_eq_iff {i : LoopInput} {s t : State} : s.loopTurn i = t ↔ LoopEffect s i t := by
  refine ⟨fun h => h ▸ loopEffect_loopTurn i s, fun h => ?_⟩
  cases h with
  | receives b rest hphase => simp [State.loopTurn, hphase, Env.poll, Config.echoCap]
  | receivesNothing hphase hinput =>
    cases i with
    | received b rest => exact absurd rfl (hinput b rest)
    | _ => simp [State.loopTurn, hphase, Env.poll]
  | offers hphase hbyte hfree => simp [State.loopTurn, State.loopConsume, hphase, hbyte, hfree]
  | startsEcho hphase hbyte hfree hseq =>
    simp [State.loopTurn, State.loopConsume, hphase, hbyte, hfree, hseq]
  | awaitsBlock hphase hbusy =>
    rcases hbusy with hheld | ⟨hbyte, hseq⟩
    · rcases hbyte : s.env.toOffer with _ | b <;>
        simp [State.loopTurn, State.loopConsume, hphase, hbyte, hheld]
    · simp [State.loopTurn, State.loopConsume, hphase, hbyte, hseq]
  | writes n hphase => simp [State.loopTurn, hphase, Env.echoWrite]
  | retries hphase hinput =>
    cases i with
    | wrote n => exact absurd rfl (hinput n)
    | _ => simp [State.loopTurn, hphase, Env.echoWrite]
  | returns hphase => simp [State.loopTurn, hphase]

/-! ### What a step of the machine can do to the environment (rule R7) -/

@[simp] theorem afterTurn_env (s : State) : s.afterTurn.env = s.env := by
  unfold State.afterTurn; split <;> rfl

theorem sequencerRun_kept {n : Nat} {s t : State} (h : sequencerRun n s = .next t) : Kept s t := by
  induction n generalizing s with
  | zero => cases h; exact .refl _
  | succ n ih =>
    obtain ⟨u, hu, hrest⟩ := thenDo_eq_next.mp h
    have hgap : Kept s (timerGap s) := { Kept.refl s with }
    exact (hgap.trans (seqStep_eq_next.mp hu).kept.1).trans (ih hrest)

theorem runWord_env {w : CodeWord} {s t : State} (h : runWord w s = .next t) : t.env = s.env := by
  unfold runWord at h
  split at h
  case h_1 i _ =>
    obtain ⟨-, -, -, -, henv, -⟩ := whatNoInstructionChanges i s t h
    exact henv
  all_goals contradiction

section
variable {P : Env → Prop} (hloop : ∀ (i : LoopInput) (s : State), P s.env → P (s.loopTurn i).env) {s t : State}
include hloop

theorem runMove_keeps_env {m : Move} (hmove : runMove m s = .next t) (h : P s.env) : P t.env := by
  cases m with
  | sequencer => exact (runWord_env hmove).symm ▸ h
  | timer e =>
    cases hmove
    obtain ⟨c, d, p, heq, -⟩ := timerEvent_eq_setTimer s e
    rwa [heq]
  | offer b =>
    cases hmove
    rwa [hostOffer_eq_setOffer]
  | rst => cases hmove; exact h
  | loop i => cases hmove; exact hloop i s h

/-- What holds of the environment as it starts, and is kept by every turn of the command loop, is kept by every
step: of the other turns, power on starts the environment anew, and none else touches it. -/
theorem step_keeps_env (hstart : P Env.start) (hstep : step s = .next t) (h : P s.env) : P t.env := by
  rw [← afterTurn_env] at h
  unfold step runTurn at hstep
  split at hstep
  case h_1 m _ => exact runMove_keeps_env hloop hstep h
  case h_2 w _ => exact (runWord_env hstep).symm ▸ h
  case h_3 b _ => exact (runWord_env hstep).symm ▸ h
  case h_4 => exact (sequencerRun_kept hstep).env.symm ▸ h
  case h_5 m k _ =>
    unfold State.powerOn at hstep
    split at hstep
    · cases hstep; exact hstart
    all_goals contradiction

end

/-! ### The echo invariant (rules R153, R158) -/

theorem echoInv_start : EchoInv Env.start := by
  constructor <;> simp [Env.start]

/-- Settles O55: nothing is held and nothing sent. -/
theorem echoInvariantHoldsAtReset : Obligations.EchoInvariantHoldsAtReset := echoInv_start

/-- Rule R158: the next `n` bytes of the buffer, or those that are left, follow what has been sent. -/
theorem EchoInv.sent_append {e : Env} (h : EchoInv e) (n : Nat) :
    e.echoed ++ (e.buf.drop e.off).take n = e.buf.take (e.off + min n (e.buf.length - e.off)) := by
  rw [h.sent, List.take_add, ← List.length_drop, ← List.take_eq_take_min]

theorem loopTurn_keeps_echoInv (i : LoopInput) (s : State) (h : EchoInv s.env) :
    EchoInv (s.loopTurn i).env := by
  have heffect := loopEffect_loopTurn i s
  generalize s.loopTurn i = t at heffect ⊢
  cases heffect with
  | receives b rest hphase => constructor <;> simp [Config.echoCap]
  | receivesNothing hphase hinput | returns hphase =>
    exact { h with echo_pending := by simp, consume_fresh := by simp }
  | offers hphase hbyte hfree => exact { h with }
  | startsEcho hphase hbyte hfree hseq =>
    obtain ⟨hoff, hbuf⟩ := h.consume_fresh hphase
    exact { h with
      echo_pending := fun _ => by simpa [hoff, List.length_pos_iff] using hbuf, consume_fresh := by simp }
  | awaitsBlock hphase hbusy | retries hphase hinput => exact h
  | writes n hphase =>
    have hoff := h.off_le
    exact {
      cap := h.cap
      off_le := by simp; omega
      sent := h.sent_append n
      echo_pending := by simp; omega
      consume_fresh := by simp; split <;> simp }

/-- Settles O56: the turns of the command loop keep it, and no other turn but power on touches the
environment. -/
theorem everyStepKeepsTheEchoInvariant : Obligations.EveryStepKeepsTheEchoInvariant :=
  fun _ _ h hstep => step_keeps_env loopTurn_keeps_echoInv echoInv_start hstep h

/-! ### The echo (rules R158, R159) -/

theorem EchoInv.echoed_eq_buf {e : Env} (h : EchoInv e) (hoff : e.off = e.buf.length) : e.echoed = e.buf := by
  rw [h.sent, hoff, List.take_length]

section
variable {s : State} (hphase : s.env.phase = .echo) (h : EchoInv s.env)
include hphase h

theorem loopTurn_wrote_idle_iff (n : Nat) : (s.loopTurn (.wrote n)).env.phase = .idle ↔
    (s.loopTurn (.wrote n)).env.off = s.env.buf.length := by
  have hoff := h.off_le
  rw [loopTurn_eq_iff.mpr (.writes n hphase)]
  simp only [State.setEnv_env, ite_eq_left_iff, reduceCtorEq, imp_false, not_not]
  omega

theorem loopTurn_wrote_zero : s.loopTurn (.wrote 0) = s := by
  have hpending : ¬ s.env.buf.length ≤ s.env.off + 0 := Nat.not_le.mpr (h.echo_pending hphase)
  rw [loopTurn_eq_iff.mpr (.writes 0 hphase), if_neg hpending, Nat.zero_min, List.take_zero, List.append_nil,
    ← hphase]
  rfl

/-- The echo is left by a write alone, and that one sends what was left of the buffer. -/
theorem echoed_eq_buf_of_echo_left {i : LoopInput} (hleft : (s.loopTurn i).env.phase ≠ .echo) :
    (s.loopTurn i).env.phase = .idle ∧ (s.loopTurn i).env.echoed = s.env.buf := by
  by_cases hwrite : ∃ n, i = .wrote n
  · obtain ⟨n, rfl⟩ := hwrite
    have heffect := loopTurn_eq_iff.mpr (.writes n hphase)
    have hidle : (s.loopTurn (.wrote n)).env.phase = .idle := by
      rw [heffect] at hleft ⊢
      simpa using hleft
    have hbuf : (s.loopTurn (.wrote n)).env.buf = s.env.buf := by rw [heffect]; rfl
    have hsent := (loopTurn_wrote_idle_iff hphase h n).mp hidle
    rw [← hbuf] at hsent ⊢
    exact ⟨hidle, (loopTurn_keeps_echoInv _ s h).echoed_eq_buf hsent⟩
  · have hretry := loopTurn_eq_iff.mpr (.retries hphase fun n hn => hwrite ⟨n, hn⟩)
    rw [hretry] at hleft
    contradiction

end

/-- Settles O57: the effect of a write, with the invariant for what has been sent when the echo is left. -/
theorem echoEndsWithTheWholeBufferSent : Obligations.EchoEndsWithTheWholeBufferSent := by
  intro s i hphase h
  refine ⟨fun n => ⟨?_, ?_, ?_, loopTurn_wrote_idle_iff hphase h n⟩, echoed_eq_buf_of_echo_left hphase h,
    Function.iterate_fixed (loopTurn_wrote_zero hphase h), loopTurn_eq_iff.mpr (.retries hphase (by simp)),
    loopTurn_eq_iff.mpr (.retries hphase (by simp))⟩ <;>
  · rw [loopTurn_eq_iff.mpr (.writes n hphase)]
    rfl

/-! ### The byte that is offered (rules R156, R157) -/

/-- The port changes only as the byte held for it is put on it. -/
theorem LoopEffect.offer {s t : State} {i : LoopInput} (h : LoopEffect s i t) (hne : t.offer ≠ s.offer) :
    s.env.phase = .consume ∧ s.offer = none ∧ t.offer = s.env.toOffer ∧ t.env.toOffer = none := by
  cases h with
  | offers hphase hbyte hfree => exact ⟨hphase, hfree, hbyte.symm, rfl⟩
  | _ => exact absurd rfl hne

/-- Only a receive event gives the loop a byte to offer. -/
theorem LoopEffect.toOffer {s t : State} {i : LoopInput} (h : LoopEffect s i t)
    (hne : t.env.toOffer ≠ s.env.toOffer) (hsome : t.env.toOffer ≠ none) :
    s.env.phase = .waitForData ∧ ∃ b rest, i = .received b rest ∧ t.env.toOffer = some b ∧
      t.env.buf = (b :: rest).take 64 := by
  cases h with
  | receives b rest hphase => exact ⟨hphase, b, rest, rfl, rfl, rfl⟩
  | offers => exact absurd rfl hsome
  | _ => exact absurd rfl hne

/-- Settles O58: of the effects of a turn, one gives the loop a byte and one puts it on the port. -/
theorem onlyByteZeroIsOffered : Obligations.OnlyByteZeroIsOffered := by
  intro s i
  refine ⟨fun b rest hphase hinput => ?_, fun b hphase hbyte hfree => ?_, (loopEffect_loopTurn i s).offer,
    (loopEffect_loopTurn i s).toOffer⟩
  · rw [hinput, loopTurn_eq_iff.mpr (.receives b rest hphase)]
    exact ⟨rfl, rfl, rfl⟩
  · rw [loopTurn_eq_iff.mpr (.offers hphase hbyte hfree)]
    exact ⟨rfl, rfl⟩

/-! ### The status indicator (rules R156, R157, R160) -/

/-- The indicator changes only as the echo starts and as the loop returns to WaitForData. -/
theorem LoopEffect.led {s t : State} {i : LoopInput} (h : LoopEffect s i t) (hne : t.env.led ≠ s.env.led) :
    (s.env.phase = .consume ∧ s.env.toOffer = none ∧ s.offer = none ∧ s.seq = 8#4) ∨ s.env.phase = .idle := by
  cases h with
  | startsEcho hphase hbyte hfree hseq => exact .inl ⟨hphase, hbyte, hfree, hseq⟩
  | returns hphase => exact .inr hphase
  | _ => exact absurd rfl hne

/-- The indicator is active while the echo lasts. -/
def Env.LitInEcho (e : Env) : Prop := e.phase = .echo → e.led = .active

theorem litInEcho_start : Env.LitInEcho Env.start :=
  fun hphase => nomatch hphase

theorem loopTurn_keeps_litInEcho (i : LoopInput) (s : State) (h : Env.LitInEcho s.env) :
    Env.LitInEcho (s.loopTurn i).env := by
  have heffect := loopEffect_loopTurn i s
  generalize s.loopTurn i = t at heffect ⊢
  cases heffect with
  | startsEcho => exact fun _ => rfl
  | writes n hphase => exact fun _ => h hphase
  | awaitsBlock | retries => exact h
  | offers hphase => exact fun hecho => h hecho
  | receives | receivesNothing | returns => exact fun hecho => nomatch hecho

/-- Settles O59: two effects of a turn change the indicator, and every one of them keeps it active through the
echo. -/
theorem indicatorIsActiveFromTheWritesToTheEndOfTheEcho :
    Obligations.IndicatorIsActiveFromTheWritesToTheEndOfTheEcho := by
  refine ⟨fun s i => ⟨fun hphase hbyte hfree hseq => ?_, fun hphase => ?_, (loopEffect_loopTurn i s).led⟩,
    fun s t h hstep => step_keeps_env loopTurn_keeps_litInEcho litInEcho_start hstep h⟩
  · rw [loopTurn_eq_iff.mpr (.startsEcho hphase hbyte hfree hseq)]
    exact ⟨rfl, rfl⟩
  · rw [loopTurn_eq_iff.mpr (.returns hphase)]
    exact ⟨rfl, rfl⟩

end Sys2Proof.Machine

/-! ## Proofs of the family 60_exceptions: the record of a read of an unwritten register -/

namespace Sys2Proof.Machine

/-! ### A recorded read excludes quiescence (rules R171, R204) -/

theorem quiescent_of_unwrittenRead {s : State} {x : DataReg} (h : s.unwrittenRead = some x) :
    s.quiescent = false := by
  simp [State.quiescent, State.faulted, h]

theorem settled_of_not_quiescent {s : State} (h : s.quiescent = false) : s.settled = false := by
  simp [State.settled, h]

theorem settledByBoundary_of_not_quiescent {s : State} (h : s.quiescent = false) :
    s.settledByBoundary = false := by
  simp [State.settledByBoundary, h]

/-! ### What keeps the record (rule R171) -/

/-- A later read adds nothing to a record. -/
theorem noteRead_of_unwrittenRead {s : State} {x : DataReg} (h : s.unwrittenRead = some x) (y : DataReg)
    (written : Bool) : (s.noteRead y written).unwrittenRead = some x := by
  simp [h]

theorem StepEffect.unwrittenRead {s t : State} {c : StepCode} {x : DataReg} (heffect : StepEffect s c t)
    (h : s.unwrittenRead = some x) : t.unwrittenRead = some x := by
  cases heffect with
  | sDef => exact noteRead_of_unwrittenRead h .maxd s.maxd.written
  | sPr2 | sPr3 | sWr2 | sWr3 => exact noteRead_of_unwrittenRead h .dc s.dc.written
  | sMap =>
    have hcb := noteRead_of_unwrittenRead h .cb s.cb.written
    exact noteRead_of_unwrittenRead hcb .maxd s.maxd.written
  | sFreq | sMaxq | sEn1 | sEn2 | sEn3 | sWaitTakes | sWaitStays => exact h

theorem runToWaiting_unwrittenRead {n : Nat} {s t : State} {x : DataReg} (hrun : runToWaiting n s = .next t)
    (h : s.unwrittenRead = some x) : t.unwrittenRead = some x := by
  induction n generalizing s with
  | zero => cases hrun; exact h
  | succ n ih =>
    rw [runToWaiting] at hrun
    split at hrun
    · cases hrun; exact h
    · obtain ⟨u, hu, hrest⟩ := thenDo_eq_next.mp hrun
      have hgap : (timerGap s).unwrittenRead = some x := h
      exact ih hrest ((seqStep_eq_next.mp hu).unwrittenRead hgap)

theorem execCmd_unwrittenRead {b : Byte} {s t : State} {x : DataReg} (hexec : execCmd b s = .next t)
    (h : s.unwrittenRead = some x) : t.unwrittenRead = some x := by
  obtain ⟨u, hu, hrest⟩ := thenDo_eq_next.mp hexec
  have hwaiting := runToWaiting_unwrittenRead hu h
  exact runToWaiting_unwrittenRead (s := u.setOffer (some b)) hrest hwaiting

theorem exec_unwrittenRead {i : Instr} {s t : State} {x : DataReg} (hexec : exec i s = .next t)
    (h : s.unwrittenRead = some x) : t.unwrittenRead = some x := by
  cases i with
  | cmd b => exact execCmd_unwrittenRead hexec h
  | setfreq f => rw [exec_setfreq] at hexec; cases hexec; exact h
  | maxduty => cases hexec; exact h
  | enable1 => rw [enableChannel_eq_next (ch := .ch1) hexec]; exact h
  | enable2 => rw [enableChannel_eq_next (ch := .ch2) hexec]; exact h
  | enable3 => rw [enableChannel_eq_next (ch := .ch3) hexec]; exact h
  | setduty1 v => rw [setDuty_eq_next (ch := .ch1) hexec]; exact h
  | setduty2 v => rw [setDuty_eq_next (ch := .ch2) hexec]; exact h
  | setduty3 v => rw [setDuty_eq_next (ch := .ch3) hexec]; exact h
  | _ => exact (stepEffect_of_exec rfl hexec).unwrittenRead h

/-- The timer, the host and the command loop do not touch the record, and `rst` leaves it (log 2). -/
theorem runMove_unwrittenRead {m : Move} {s t : State} {x : DataReg} (hmove : runMove m s = .next t)
    (h : s.unwrittenRead = some x) : t.unwrittenRead = some x := by
  cases m with
  | sequencer => exact (runWord_stepCode_eq_next.mp hmove).unwrittenRead h
  | timer e =>
    cases hmove
    obtain ⟨c, d, p, heq, -⟩ := timerEvent_eq_setTimer s e
    rwa [heq]
  | offer b =>
    cases hmove
    rwa [hostOffer_eq_setOffer]
  | rst => cases hmove; exact h
  | loop i =>
    cases hmove
    obtain ⟨offer, env, heq, -⟩ := loopTurn_eq_setEnv i s
    rwa [heq]

/-- Settles O50: a record excludes quiescence, which both forms of settled ask for; a step only notes a read
where nothing is recorded, and no other operation writes the record. -/
theorem unwrittenReadIsNeverClearedAndNeverQuiescent :
    Obligations.UnwrittenReadIsNeverClearedAndNeverQuiescent := by
  intro x s h
  have hquiet := quiescent_of_unwrittenRead h
  exact ⟨hquiet, settled_of_not_quiescent hquiet, settledByBoundary_of_not_quiescent hquiet,
    fun _ _ hmove => runMove_unwrittenRead hmove h, fun _ _ hexec => exec_unwrittenRead hexec h⟩

end Sys2Proof.Machine

/-! ## Proofs of the family 70_reset_and_hazards: `rst`, a boundary inside a pair, and settling -/

namespace Sys2Proof.Machine

/-! ### Reset in one step (rule R191) -/

/-- Settles O2: the step is `resetBlock`, which leaves no channel enabled. -/
theorem rstResetsTheBlockAtOnce : Obligations.RstResetsTheBlockAtOnce :=
  fun s rest h => ⟨(s.setAgenda rest).resetBlock, step_cons h, rfl, rfl, rfl, rfl, rfl, rfl, rfl, rfl, rfl, rfl,
    rfl, rfl, pwmOut_of_en_zero rfl, rfl⟩

/-! ### A boundary inside a pair (rule R196) -/

/-- The first write of a pair, INIT's or a command's. -/
theorem seqStep_first_of_pair {s : State} (hseq : s.seq = 10#4 ∨ s.seq = 6#4) (h : s.dc.val ≤ s.pwmPeriod) :
    ∃ c, (c = 11#4 ∨ c = 7#4) ∧
      seqStep s = .next (((s.noteRead .dc s.dc.written).setDutySh .ch2 s.dc.val).setSeq c) := by
  rcases hseq with hseq | hseq
  · exact ⟨11#4, .inl rfl, seqStep_eq_next.mpr (hseq ▸ .sWr2 h)⟩
  · exact ⟨7#4, .inr rfl, seqStep_eq_next.mpr (hseq ▸ .sPr2 h)⟩

/-- The second write of a pair, INIT's or a command's. -/
theorem seqStep_second_of_pair {s : State} (hseq : s.seq = 11#4 ∨ s.seq = 7#4) (h : s.dc.val ≤ s.pwmPeriod) :
    seqStep s = .next (((s.noteRead .dc s.dc.written).setDutySh .ch3 s.dc.val).setSeq 8#4) := by
  rcases hseq with hseq | hseq
  · exact seqStep_eq_next.mpr (hseq ▸ .sWr3 h)
  · exact seqStep_eq_next.mpr (hseq ▸ .sPr3 h)

/-- Settles O53: each boundary loads the shadows as the write before it leaves them. -/
theorem boundaryInsideThePairSplitsTheChannels : Obligations.BoundaryInsideThePairSplitsTheChannels := by
  intro s hseq h
  obtain ⟨c, hc, hfirst⟩ := seqStep_first_of_pair hseq h
  have hsecond := seqStep_second_of_pair
    (s := pbound (((s.noteRead .dc s.dc.written).setDutySh .ch2 s.dc.val).setSeq c)) hc h
  exact ⟨_, _, hfirst, rfl, rfl, hsecond, rfl, rfl, rfl, rfl⟩

/-! ### The way to S_WAIT with no byte on offer (rule R204) -/

/-- With no byte on offer each step comes one nearer to S_WAIT, and stays there. -/
theorem StepEffect.approaches {s t : State} {c : StepCode} (h : StepEffect s c t) (hoffer : s.offer = none) :
    t.offer = none ∧ stepsToWait t.seq = stepsToWait c - 1 := by
  cases h with
  | sWaitTakes b h => rw [h] at hoffer; contradiction
  | _ => exact ⟨hoffer, rfl⟩

theorem BlockInv.seq_of_stepsToWait_zero {s : State} (h : BlockInv s) (hsteps : stepsToWait s.seq = 0) :
    s.seq = 8#4 := by
  have hlegal := h.seq_legal
  unfold stepsToWait at hsteps
  split at hsteps <;> bv_omega

/-- On a run of the block, S_WAIT with no byte on offer is quiescence. -/
theorem BlockInv.quiescent_at_sWait {s : State} (h : BlockInv s) (hseq : s.seq = 8#4)
    (hoffer : s.offer = none) : s.quiescent = true := by
  rw [State.quiescent, waiting_iff.mpr ⟨hseq, hoffer⟩, State.faulted, h.nothing_unwritten_read]
  rfl

theorem sequencerRun_approaches (n : Nat) {s : State} (h : BlockInv s) (hoffer : s.offer = none) :
    ∃ t, sequencerRun n s = .next t ∧ BlockInv t ∧ t.offer = none ∧
      stepsToWait t.seq = stepsToWait s.seq - n := by
  induction n generalizing s with
  | zero => exact ⟨s, rfl, h, hoffer, rfl⟩
  | succ n ih =>
    obtain ⟨u, hu, hinv⟩ := seqStep_keeps_blockInv (timerGap_keeps_blockInv h)
    obtain ⟨hoffer', hnearer⟩ := (seqStep_eq_next.mp hu).approaches hoffer
    obtain ⟨t, ht, hinv', hoffer'', hdist⟩ := ih hinv hoffer'
    refine ⟨t, ?_, hinv', hoffer'', ?_⟩
    · rw [sequencerRun, hu, thenDo_next, ht]
    · rw [hdist, hnearer, State.timerGap_seq, Nat.sub_sub, Nat.add_comm]

/-- As many steps as lie before S_WAIT, or more, end in quiescence, and one boundary settles that. -/
theorem sequencerRun_quiescent {n : Nat} {s : State} (h : BlockInv s) (hoffer : s.offer = none)
    (hn : stepsToWait s.seq ≤ n) :
    ∃ t, sequencerRun n s = .next t ∧ t.quiescent = true ∧ (pbound t).settled = true ∧
      (pbound t).settledByBoundary = true := by
  obtain ⟨t, ht, hinv, hoffer', hdist⟩ := sequencerRun_approaches n h hoffer
  have hseq := hinv.seq_of_stepsToWait_zero (hdist.trans (Nat.sub_eq_zero_of_le hn))
  have hquiet := hinv.quiescent_at_sWait hseq hoffer'
  exact ⟨t, ht, hquiet, (pbound_settled t).trans hquiet, (pbound_settledByBoundary t).trans hquiet⟩

/-- Settles O48: at most three steps lie before S_WAIT in the main loop, and at most eight anywhere. -/
theorem quiescentInThreeOrEightStepsThenSettled : Obligations.QuiescentInThreeOrEightStepsThenSettled := by
  refine fun s h hoffer => ⟨fun hloop => sequencerRun_quiescent h hoffer ?_,
    sequencerRun_quiescent h hoffer ?_⟩ <;> (unfold stepsToWait; split <;> omega)

/-! ### Settling on fair runs (rules R203, R204) -/

@[simp] theorem afterTurn_dutyPending (s : State) : s.afterTurn.dutyPending = s.dutyPending := by
  unfold State.afterTurn; split <;> rfl

@[simp] theorem afterTurn_isBoundary (u : Turn) (s : State) :
    Turn.isBoundary u s.afterTurn = Turn.isBoundary u s := by
  unfold State.afterTurn; split <;> rfl

/-- A move that is a boundary is PBOUND (rules R118, R119). -/
theorem runMove_of_isBoundary {m : Move} {s : State} (h : Turn.isBoundary (.move m) s = true) :
    runMove m s = .next (pbound s) := by
  cases m with
  | timer e =>
    cases e with
    | tick => exact congrArg Host.Outcome.next (tick_at_period_end (of_decide_eq_true h))
    | pbound => rfl
  | _ => contradiction

/-- At S_WAIT no move writes a duty, so a boundary once come is the last event of R16. -/
theorem runMove_keeps_not_pending {m : Move} {s t : State} (h : runMove m s = .next t) (hseq : s.seq = 8#4)
    (hpending : s.dutyPending = false) : t.dutyPending = false := by
  cases m with
  | sequencer =>
    have heffect := runWord_stepCode_eq_next.mp h
    rw [hseq] at heffect
    cases heffect <;> exact hpending
  | timer e =>
    cases h
    obtain ⟨c, d, p, heq, ⟨-, hp⟩ | ⟨-, hp⟩⟩ := timerEvent_eq_setTimer s e
    · rw [heq]; exact hp.trans hpending
    · rw [heq]; exact hp
  | offer b =>
    cases h
    rw [hostOffer_eq_setOffer]
    exact hpending
  | rst => cases h; rfl
  | loop i =>
    cases h
    obtain ⟨offer, env, heq, -⟩ := loopTurn_eq_setEnv i s
    rw [heq]
    exact hpending

/-- From the `n`-th state of the run on, no byte is on offer and no `rst` comes. -/
def QuietFrom (r : Nat → State) (n : Nat) : Prop :=
  ∀ k, n ≤ k → (r k).offer = none ∧ (r k).nextTurn ≠ .move .rst

section
variable {r : Nat → State} (hr : BlockRun r) {n : Nat}
include hr

theorem BlockRun.stepsToWait_of_sequencer (hoffer : (r n).offer = none)
    (hseqr : (r n).nextTurn = .move .sequencer) :
    stepsToWait (r (n + 1)).seq = stepsToWait (r n).seq - 1 := by
  obtain ⟨m, t, a, hm, hrun, hnext⟩ := hr.move n
  obtain rfl : m = .sequencer := Turn.move.inj (hm.symm.trans hseqr)
  rw [← afterTurn_offer] at hoffer
  rw [hnext, ← afterTurn_seq (r n)]
  exact ((runWord_stepCode_eq_next.mp hrun).approaches hoffer).2

/-- The other agents leave SEQ, so no move leads away from S_WAIT. -/
theorem BlockRun.stepsToWait_le_of_quiet (hquiet : QuietFrom r n) {k : Nat} (hk : n ≤ k) :
    stepsToWait (r k).seq ≤ stepsToWait (r n).seq := by
  induction k, hk using Nat.le_induction with
  | base => exact le_rfl
  | succ k hk ih =>
    obtain ⟨hoffer, hrst⟩ := hquiet k hk
    by_cases hseqr : (r k).nextTurn = .move .sequencer
    · have := hr.stepsToWait_of_sequencer hoffer hseqr
      omega
    · obtain ⟨m, t, a, hm, hrun, hnext⟩ := hr.move k
      rw [hm, Turn.move.injEq] at hseqr
      rw [hm, ne_eq, Turn.move.injEq] at hrst
      have hseq : (r (k + 1)).seq = (r k).seq := by
        rw [hnext]
        exact (runMove_seq hrun hseqr hrst).trans (afterTurn_seq _)
      rwa [hseq]

theorem BlockRun.not_pending_after_boundary (hbound : Turn.isBoundary (r n).nextTurn (r n) = true) :
    (r (n + 1)).dutyPending = false := by
  obtain ⟨m, t, a, hm, hrun, hnext⟩ := hr.move n
  rw [hm, ← afterTurn_isBoundary] at hbound
  rw [runMove_of_isBoundary hbound] at hrun
  cases hrun
  rw [hnext]
  rfl

theorem BlockRun.stays_not_pending (hseq : ∀ k, n ≤ k → (r k).seq = 8#4)
    (hpending : (r n).dutyPending = false) {k : Nat} (hk : n ≤ k) : (r k).dutyPending = false := by
  induction k, hk using Nat.le_induction with
  | base => exact hpending
  | succ k hk ih =>
    obtain ⟨m, t, a, -, hrun, hnext⟩ := hr.move k
    rw [hnext]
    exact runMove_keeps_not_pending (t := t) hrun ((afterTurn_seq _).trans (hseq k hk))
      ((afterTurn_dutyPending _).trans ih)

variable (hfair : Fair r) (hinv : BlockInv (r 0))
include hfair hinv

/-- No run of the block comes to a reserved code, so the sequencer always has an enabled step (rule R203). -/
theorem BlockRun.sequencer_moves (n : Nat) : ∃ k, n ≤ k ∧ (r k).nextTurn = .move .sequencer :=
  hfair.sequencer n fun k _ => decide_eq_false (by have := (hr.blockInv hinv k).seq_legal; omega)

/-- Each move of the sequencer comes nearer to S_WAIT, and fairness brings one again and again. -/
theorem BlockRun.reaches_sWait (hquiet : QuietFrom r n) {d : Nat} (hd : stepsToWait (r n).seq ≤ d) :
    ∃ k, n ≤ k ∧ stepsToWait (r k).seq = 0 := by
  induction d generalizing n with
  | zero => exact ⟨n, le_rfl, Nat.le_zero.mp hd⟩
  | succ d ih =>
    obtain ⟨k, hk, hseqr⟩ := hr.sequencer_moves hfair hinv n
    have hnearer := hr.stepsToWait_of_sequencer (hquiet k hk).1 hseqr
    have hkept := hr.stepsToWait_le_of_quiet hquiet hk
    obtain ⟨k', hk', hzero⟩ := ih (n := k + 1) (fun j hj => hquiet j (by omega)) (by omega)
    exact ⟨k', by omega, hzero⟩

/-- Once at S_WAIT the block stays there. -/
theorem BlockRun.stays_at_sWait (hquiet : QuietFrom r n) :
    ∃ k, n ≤ k ∧ ∀ j, k ≤ j → (r j).seq = 8#4 := by
  obtain ⟨k, hk, hzero⟩ := hr.reaches_sWait hfair hinv hquiet le_rfl
  refine ⟨k, hk, fun j hj => (hr.blockInv hinv j).seq_of_stepsToWait_zero (Nat.le_zero.mp ?_)⟩
  rw [← hzero]
  exact hr.stepsToWait_le_of_quiet (fun i hi => hquiet i (hk.trans hi)) hj

end

/-- Settles O51: the block comes to S_WAIT and stays there, quiescent, and no duty is written after the next
boundary. -/
theorem fairRunsSettleWhenNothingIsOffered : Obligations.FairRunsSettleWhenNothingIsOffered := by
  rintro r hr hfair hinv ⟨n, hquiet⟩
  obtain ⟨k, hnk, hwaits⟩ := hr.stays_at_sWait hfair hinv hquiet
  obtain ⟨b, hkb, hbound⟩ := hfair.boundary k
  refine ⟨b + 1, fun j hj => ?_⟩
  have hquiescent := (hr.blockInv hinv j).quiescent_at_sWait (hwaits j (by omega)) (hquiet j (by omega)).1
  have hpending := hr.stays_not_pending (fun i hi => hwaits i (by omega))
    (hr.not_pending_after_boundary hbound) hj
  have hsettled : (r j).settledByBoundary = true := by simp [State.settledByBoundary, hquiescent, hpending]
  exact ⟨(hr.blockInv hinv j).settled_of_settledByBoundary hsettled, hsettled⟩

end Sys2Proof.Machine
